-- ==== Sys2Proof/Word.lean ====
section
/-! DEFINITION. The word types of the Rabbit 3000 (`00_scope.md` R9: 8-bit registers and bytes, 16-bit logical and
I/O addresses, 20-bit physical addresses). -/
namespace Sys2Proof

/-- A byte: one memory cell, one 8-bit register (`00_scope.md` R9). -/
abbrev Byte := BitVec 8

/-- A 16-bit register pair, index register, program counter, logical address or I/O address (`10_state.md` R21, R25). -/
abbrev Word := BitVec 16

/-- A 20-bit physical address (`20_memory.md` R51). -/
abbrev Phys := BitVec 20

end Sys2Proof
end

