-- ==== Sys2Proof/Machine/Bits.lean ====
section
/-! DEFINITION. Bit-field, extension and byte-order helpers (`00_scope.md` R10, R11; `20_memory.md` R65). -/
namespace Sys2Proof.Machine

/-- `{hi, lo}`: the 16-bit value with `hi` in bits 15:8 (`00_scope.md` R10). -/
def word (hi lo : Byte) : Word := hi ++ lo

/-- Bits 15:8 of a word, the byte at the higher address (`20_memory.md` R65). -/
def hiByte (w : Word) : Byte := w.extractLsb' 8 8

/-- Bits 7:0 of a word, the byte at the lower address (`20_memory.md` R65). -/
def loByte (w : Word) : Byte := w.extractLsb' 0 8

/-- `sext_8(v)` (`00_scope.md` R11). -/
def sext8 (v : Byte) : Word := v.signExtend 16

/-- `zext_8(v)` (`00_scope.md` R11). -/
def zext8 (v : Byte) : Word := v.setWidth 16

/-- `x[i]` as a Boolean (`00_scope.md` R11). -/
def bit {w : Nat} (x : BitVec w) (i : Nat) : Bool := x.getLsbD i

/-- The one-bit value of a Boolean. -/
def bit1 (b : Bool) : BitVec 1 := BitVec.ofBool b

/-- `x` with bit `i` set to `b`, every other bit unchanged. -/
def setBit {w : Nat} (x : BitVec w) (i : Nat) (b : Bool) : BitVec w :=
  if b then x ||| BitVec.twoPow w i else x &&& ~~~(BitVec.twoPow w i)

/-- The 2-bit field of `x` whose low bit is bit `lo`. -/
def field2 {w : Nat} (x : BitVec w) (lo : Nat) : BitVec 2 := x.extractLsb' lo 2

/-- `new` under the mask, `old` elsewhere. -/
def merge {w : Nat} (mask new old : BitVec w) : BitVec w := (new &&& mask) ||| (old &&& ~~~mask)

end Sys2Proof.Machine
end

