-- ==== Sys2Proof/Config.lean ====
section
/-! DEFINITION. The parameters an implementation fixes (`00_scope.md` R9, `93_implementation_defined.md` section 3), and
the one opaque constant behind every value the spec leaves open (`93_implementation_defined.md` section 1). -/
namespace Sys2Proof

/-- The silicon revision `REV` (`00_scope.md` R3, R9). -/
inductive Rev where
  /-- the original Rabbit 3000 (GREV 00000) -/
  | r3000
  /-- the Rabbit 3000A (GREV 00001) -/
  | r3000A
deriving DecidableEq, Repr

/-- `SUB_CARRY_SENSE` (`44_arith8.md` R350, `92_eei_decisions.md` D5). -/
inductive SubCarry where
  | asDocumented | borrow
deriving DecidableEq, Repr

/-- `UMS_BORROW_FORM` (`49_r3000a_opcodes.md` R552, D27). -/
inductive UmsForm where
  | literal | magnitude
deriving DecidableEq, Repr

/-- `USER_IPSET3` (`60_exceptions.md` R658, D31). -/
inductive UserIpset3 where
  | asWritten | refuse
deriving DecidableEq, Repr

/-- `QD_DIRECTION` (`63_timers_capture_pwm_qd.md` R814). -/
inductive QdDirection where
  | iLeadsIncrements | iLeadsDecrements
deriving DecidableEq, Repr

/-- The fourteen 3000A instructions whose opcode bytes the source does not give (`30_encoding.md` R133,
`49_r3000a_opcodes.md` R570). -/
inductive Added where
  | uma | ums | lddsr | ldisr | lsdr | lsir | lsddr | lsidr | setusr | pushSu | popSu | sures | rdmode | syscall
deriving DecidableEq, Repr

/-- `R3000A_OPCODES` (`93_implementation_defined.md` section 3, G3): which of the fourteen instructions are decoded, each
with its second byte, after ED. -/
abbrev OpcodeMap := List (Added × Byte)

/-- The default of `R3000A_OPCODES`: the fourteen values of G3 (PRESUMED, log 12). -/
def OpcodeMap.default : OpcodeMap := [
  (.uma, 0xC0), (.ums, 0xC8), (.lddsr, 0x98), (.ldisr, 0x90), (.lsdr, 0xF8), (.lsir, 0xF0), (.lsddr, 0xD8),
  (.lsidr, 0xD0), (.setusr, 0x6F), (.pushSu, 0x66), (.popSu, 0x6E), (.sures, 0x7D), (.rdmode, 0x7F), (.syscall, 0x75)]

/-- `UER_LAYOUT` (`93_implementation_defined.md` section 3, D32): for which values of a user-enable register its peripheral
is enabled. -/
inductive UerLayout where
  /-- bit 7 enables the peripheral, and bit k of IBUER bank k -/
  | bit7Enables
  /-- any other function of the byte, as its table: bit v says whether the value v enables; for IBUER one table per bank -/
  | table (enables : BitVec 256) (banks : Vector (BitVec 256) 8)
deriving DecidableEq, Repr

/-- What the host attached to one chip-select and enable pair (`20_memory.md` R64).  A flash (`00_scope.md` R9), whose programming
commands the spec leaves to the host, is taken as `rom`: it reads as its contents, and a write to it is lost (DESIGN CHOICE,
log 5). -/
inductive DeviceKind where
  /-- nothing: a read returns an unspecified byte, a write is lost (`20_memory.md` R76) -/
  | absent
  /-- read-only, a ROM or a flash: a write is lost -/
  | rom
  | ram
deriving DecidableEq, Repr

/-- A memory device: its kind and how many low address lines it sees (it repeats above them, `20_memory.md` R64). -/
structure Device where
  kind : DeviceKind
  addrBits : Nat
deriving DecidableEq, Repr

/-- The parameters of `93_implementation_defined.md` section 3 that a functional model needs.  They stand in the state so
that a claim can be made for every value of them; no step changes them (log 1, 5, 9 to 16). -/
structure Params where
  /-- `REV` -/
  rev : Rev
  /-- `SUB_CARRY_SENSE` -/
  subCarry : SubCarry
  /-- `ADD_SP_D`: true = signed -/
  addSpSigned : Bool
  /-- `UMS_BORROW_FORM` -/
  umsForm : UmsForm
  /-- `PWM_VECTOR`: the bit b and the offset of the 3000A PWM interrupt; `none` = the spec gives none (R630) -/
  pwmVector : Option (Bool × Byte)
  /-- `USER_IPSET3` -/
  userIpset3 : UserIpset3
  /-- `R3000A_OPCODES` -/
  opcodes : OpcodeMap
  /-- `UER_LAYOUT` -/
  uerLayout : UerLayout
  /-- `QD_DIRECTION` -/
  qdDirection : QdDirection
  /-- `SERIAL_EF_FIFO_DEPTH` -/
  fifoDepth : Nat
  /-- the memory devices: index 2 * (chip select) + (enable pair), chip select 0..2 -/
  devices : Vector Device 6
deriving DecidableEq, Repr

/-- The parameters `State.reset` starts from: the defaults of `93_implementation_defined.md` section 3, with REV = R3000A
(DESIGN CHOICE, log 1) and six 1 MB RAM devices (DESIGN CHOICE, log 5). -/
def Params.default : Params where
  rev := .r3000A
  subCarry := .asDocumented
  addSpSigned := true
  umsForm := .literal
  pwmVector := none
  userIpset3 := .asWritten
  opcodes := OpcodeMap.default
  uerLayout := .bit7Enables
  qdDirection := .iLeadsIncrements
  fifoDepth := 4
  devices := Vector.replicate 6 ⟨.ram, 20⟩

/-- The free value: the n-th byte the spec leaves unspecified (`93_implementation_defined.md` U1 to U8).  It has no body, so
nothing can be proved of any value of it (log 6). -/
opaque Config.freeByte : Nat → Byte

end Sys2Proof
end

