-- ==== Sys2Proof/Machine/Peripherals.lean ====
section
/-! DEFINITION. The types of the on-chip devices' state: every internal I/O register and every hidden flip-flop, counter
and buffer the spec gives the peripherals (`11_io_register_map.md`, `21`, `61` to `64`, `70`). -/
namespace Sys2Proof.Machine

/-- Memory management, memory interface and (3000A) memory protection registers (`21_memory_interface.md` R90 to R108). -/
structure Mmu where
  /-- 0x10 (R90) -/
  mmidr : Byte
  /-- 0x11 (R91) -/
  stackseg : Byte
  /-- 0x12 (R92) -/
  dataseg : Byte
  /-- 0x13 (R93) -/
  segsize : Byte
  /-- 0x14 to 0x17 (R96) -/
  mbcr : Vector Byte 4
  /-- 0x18 (R95) -/
  mecr : Byte
  /-- 0x19 (R97): timing only -/
  mtcr : Byte
  /-- 0x1C (R98) -/
  bdcr : Byte
  /-- 0x0448 (R100) -/
  ramsr : Byte
  /-- 0x0444 (R101) -/
  stkcr : Byte
  /-- 0x0445 (R102) -/
  stkllr : Byte
  /-- 0x0446 (R103) -/
  stkhlr : Byte
  /-- 0x0440 (R106) -/
  wpcr : Byte
  /-- 0x0460 (R107) -/
  wplr : Byte
  /-- 0x0461 (R107) -/
  wphr : Byte
  /-- 0x0480, 0x0484: WPSAR, WPSBR (R108) -/
  wpsr : Vector Byte 2
  /-- 0x0481, 0x0485: WPSALR, WPSBLR (R108) -/
  wpslr : Vector Byte 2
  /-- 0x0482, 0x0486: WPSAHR, WPSBHR (R108) -/
  wpshr : Vector Byte 2
deriving DecidableEq, Repr

/-- EDMR and the 22 user-enable registers, in the order of `60_exceptions.md` R656. -/
structure UserRegs where
  /-- 0x0420 (R651): bit 0 is EDMF -/
  edmr : Byte
  uer : Vector Byte 22
deriving DecidableEq, Repr

/-- The three violation request flip-flops (`60_exceptions.md` R606 rows 1 to 3). -/
structure Violations where
  systemMode : Bool
  stackLimit : Bool
  writeProtect : Bool
deriving DecidableEq, Repr

/-- Global control, clocks and the periodic interrupt (`61_system_management.md` R672 to R677, R685). -/
structure SysCtl where
  /-- `GCSR[7:6]` -/
  cause : BitVec 2
  /-- `GCSR[4:2]` -/
  clockSel : BitVec 3
  /-- `GCSR[1:0]` -/
  periodicPrio : BitVec 2
  /-- the periodic request flip-flop -/
  periodicReq : Bool
  /-- 32 kHz cycles since the last periodic tick, modulo 16 -/
  tick : BitVec 4
  gcdr : Byte
  gcm0r : Byte
  gcm1r : Byte
  gpscr : Byte
  gocr : Byte
deriving DecidableEq, Repr

/-- The state of the RTCCR command machine (`61_system_management.md` R681). -/
inductive RtcMode where
  | idle | armed | byteIncrement
deriving DecidableEq, Repr

/-- The real-time clock (`61_system_management.md` R680, R681). -/
structure Rtc where
  count : BitVec 48
  hold : BitVec 48
  mode : RtcMode
deriving DecidableEq, Repr

/-- How far the SWDTR disable sequence 5A-52-44 has come (`61_system_management.md` R684). -/
inductive SwdSeq where
  | none | saw5A | saw5A52
deriving DecidableEq, Repr

/-- The two watchdogs (`61_system_management.md` R682 to R684). -/
structure Watchdog where
  /-- 32 kHz cycles since the last hit -/
  count : BitVec 17
  /-- the selected time-out in 32 kHz cycles -/
  period : BitVec 17
  /-- the value last written to WDTTR -/
  test : Byte
  disabled : Bool
  /-- the secondary watchdog's time constant -/
  swdtr : Byte
  swdCount : Byte
  swdOn : Bool
  swdReq : Bool
  swdSeq : SwdSeq
deriving DecidableEq, Repr

/-- The seven parallel ports' pins, in the order A to G. -/
inductive PortId where
  | a | b | c | d | e | f | g
deriving DecidableEq, Repr

/-- The four ports with a two-stage output (`62_ports_io_banks.md` R724). -/
inductive TPort where
  | d | e | f | g
deriving DecidableEq, Repr

/-- One of Ports D to G: preload, output, control, function, drive control and direction (`62_ports_io_banks.md` R724,
R725; Port E has no drive control register and its field stays zero). -/
structure TimedPort where
  pre : Byte
  out : Byte
  cr : Byte
  fr : Byte
  dcr : Byte
  ddr : Byte
deriving DecidableEq, Repr

/-- The parallel ports.  Port A's output register is the slave port's `outR[0]` (`62_ports_io_banks.md` R721). -/
structure Ports where
  pbOut : Byte
  pbddr : Byte
  /-- bits 6, 4, 2, 0 only (R723) -/
  pcOut : Byte
  /-- bits 6, 4, 2, 0 only (R723) -/
  pcfr : Byte
  d : TimedPort
  e : TimedPort
  f : TimedPort
  g : TimedPort
deriving DecidableEq, Repr

/-- The host-supplied level of every pin the chip does not drive (`62_ports_io_banks.md` R720). -/
structure Pins where
  a : Byte
  b : Byte
  c : Byte
  d : Byte
  e : Byte
  f : Byte
  g : Byte
deriving DecidableEq, Repr

/-- External I/O control: IB0CR to IB7CR and the auxiliary bus address latch (`62_ports_io_banks.md` R740, R743). -/
structure ExtBus where
  ib : Vector Byte 8
  auxAddr : BitVec 6
deriving DecidableEq, Repr

/-- One external interrupt: IxCR and its two pulse catchers (`60_exceptions.md` R640). -/
structure ExtInt where
  cr : Byte
  catchA : Bool
  catchB : Bool
deriving DecidableEq, Repr

/-- Timer A (`63_timers_capture_pwm_qd.md` R770 to R777); index i of the vectors is unit A(i+1). -/
structure TimerA where
  run : Bool
  /-- interrupt enables in bits 7:1 -/
  ien : Byte
  /-- count-done status in bits 7:1 -/
  done : Byte
  tacr : Byte
  /-- `TAPR[0]` -/
  tapr0 : Bool
  reload : Vector Byte 10
  count : Vector Byte 10
deriving DecidableEq, Repr

/-- Timer B (`63_timers_capture_pwm_qd.md` R780 to R786); index 0 is match 1, index 1 match 2. -/
structure TimerB where
  run : Bool
  ien : Vector Bool 2
  stat : Vector Bool 2
  /-- `TBCR[3:0]` -/
  tbcr : BitVec 4
  /-- the divide-by-8 of perclk/2 -/
  div8 : BitVec 3
  count : BitVec 10
  pre : Vector (BitVec 10) 2
  cmp : Vector (BitVec 10) 2
  valid : Vector Bool 2
deriving DecidableEq, Repr

/-- The pulse width modulator (`63_timers_capture_pwm_qd.md` R790 to R793). -/
structure Pwm where
  pwl : Vector Byte 4
  pwm : Vector Byte 4
  count : BitVec 10
  iter : BitVec 3
  req : Bool
deriving DecidableEq, Repr

/-- One input capture channel (`63_timers_capture_pwm_qd.md` R802 to R805). -/
structure CaptureChan where
  trig : Byte
  src : Byte
  count : Word
  latch : Word
  hold : Byte
  holding : Bool
  running : Bool
  lastStart : Bool
  lastStop : Bool
deriving DecidableEq, Repr

/-- Input capture (`63_timers_capture_pwm_qd.md` R800 to R806). -/
structure Capture where
  /-- status in bits 7:2 -/
  stat : Byte
  /-- enables in bits 7:4 -/
  ien : Byte
  test : BitVec 2
  prio : BitVec 2
  chan : Vector CaptureChan 2
deriving DecidableEq, Repr

/-- One quadrature decoder channel: its counter, the last raw (I, Q) sample and the filtered (I, Q) state (I in bit 1). -/
structure QuadChan where
  count : BitVec 10
  raw : BitVec 2
  filt : BitVec 2
deriving DecidableEq, Repr

/-- The quadrature decoder (`63_timers_capture_pwm_qd.md` R810 to R814). -/
structure Quad where
  qdcr : Byte
  /-- status in bits 7, 6, 3, 2 -/
  stat : Byte
  req : Bool
  chan : Vector QuadChan 2
deriving DecidableEq, Repr

/-- The six serial ports, in the manual's order. -/
inductive SerialId where
  | a | b | c | d | e | f
deriving DecidableEq, Repr

/-- How a byte entered the transmit buffer: through SxDR, SxAR or SxLR (`64_serial_slave.md` R832 to R834). -/
inductive TxKind where
  | data | address | longStop
deriving DecidableEq, Repr

/-- A byte in the transmitter with its kind. -/
structure TxChar where
  data : Byte
  kind : TxKind
deriving DecidableEq, Repr

/-- A received byte with the status bits that travel with it (`64_serial_slave.md` R835, R837). -/
structure RxChar where
  data : Byte
  s6 : Bool
  s4 : Bool
  s0 : Bool
deriving DecidableEq, Repr

/-- What the transmitter is sending (the phases after `character` are HDLC's, `64_serial_slave.md` R857).  Each but `idle` is one
byte on the line, for an Abort acts at a byte boundary. -/
inductive TxPhase where
  | idle
  | character (c : TxChar)
  /-- the first or the second of the two CRC bytes -/
  | crc (second : Bool)
  | abort
  | closingFlag
  /-- an opening Flag, and whether another one follows (R859) -/
  | openingFlag (again : Bool)
deriving DecidableEq, Repr

/-- A burst of eight serial clocks under way in clocked mode: whether the byte it brings is received, and whether it carries the
byte in the shifter (`64_serial_slave.md` R854). -/
structure Burst where
  receives : Bool
  sends : Bool
deriving DecidableEq, Repr

/-- One serial port (`64_serial_slave.md` R830 to R857). -/
structure SerialPort where
  /-- SxCR bits 5:0 (the command bits 7:6 are not stored, R840) -/
  cr : BitVec 6
  /-- SxER -/
  er : Byte
  /-- the receive data register and its status bits -/
  rx : RxChar
  /-- SxSR[7] -/
  rxFull : Bool
  /-- SxSR[5] -/
  overrun : Bool
  /-- characters completed and waiting behind the data register: the shift register, or the FIFO of E and F (oldest first) -/
  rxWait : List RxChar
  /-- ports A to D: an overrun, found at the start bit, costs the character now arriving (R852, U5) -/
  rxLost : Bool
  /-- the transmit data register; SxSR[3] says it holds a byte -/
  txd : Option TxChar
  /-- the transmit FIFO of E and F (oldest first); empty on A to D -/
  txFifo : List TxChar
  /-- the shift register; SxSR[2] says it is busy -/
  tx : TxPhase
  /-- SxSR[2:1] of HDLC mode: the cause of the last transmit interrupt -/
  txCause : BitVec 2
  /-- HDLC: an Abort command waits for the next byte boundary -/
  abortPending : Bool
  /-- the receive and transmit interrupt request flip-flops (R853) -/
  rxReq : Bool
  txReq : Bool
  /-- clocked mode: a send code, a receive code has been stored and waits, the one for the shifter, the other for a burst (R854) -/
  sendCode : Bool
  recvCode : Bool
  /-- HDLC: the receiver ignores bytes until a Flag (R857) -/
  flagSearch : Bool
  /-- clocked mode: the shifter is free but the data register holds a byte without a send code, so that SxSR[2] stays 1
  (R836) -/
  held : Bool
  /-- HDLC: the closing Flag follows a CRC (R837) -/
  crcEnded : Bool
  /-- HDLC: a byte was written in answer to the interrupt at the end of the CRC, so that the closing Flag raises none (R837) -/
  afterCrc : Bool
  /-- clocked mode: the burst under way (R845, R854) -/
  burst : Option Burst
  /-- pulses of the port's baud clock since the unit being sent, or the burst under way, began (R850); with the external clock
  twice the clocks of the burst, two edges each -/
  baud : Nat
  /-- clocked mode: the receive shift register (R854) -/
  rxShift : Byte
  /-- clocked mode: the last bit sent, which the transmitter holds on its output while it sends nothing; `none` where it has
  sent none yet, or stopped within a byte (R854) -/
  lastBit : Option Bool
deriving DecidableEq, Repr

/-- The slave port (`64_serial_slave.md` R870 to R875). -/
structure SlavePort where
  /-- written by the master -/
  inR : Vector Byte 3
  /-- written by the slave; `outR[0]` is also the Port A output register -/
  outR : Vector Byte 3
  spsr : Byte
  /-- the interrupt request flip-flop `sp_req` -/
  req : Bool
  /-- `SPCR[7]`: ignore the SMODE pins -/
  ignoreSmode : Bool
  /-- `SPCR[3:2]` -/
  mode : BitVec 2
  /-- `SPCR[1:0]` -/
  prio : BitVec 2
deriving DecidableEq, Repr

/-- The bootstrap (`70_reset_and_hazards.md` R910, R911): whether the boot ROM has control, the SMODE code that names the
source of its bytes, and the bytes of the current triplet received so far. -/
structure Boot where
  active : Bool
  source : BitVec 2
  bytes : List Byte
deriving DecidableEq, Repr

/-- The data lines of an external I/O cycle (`62_ports_io_banks.md` R743): the memory data bus D[7:0], or PA[7:0] of the
auxiliary I/O bus, whose address lines PB[7:2] carry the low six address bits. -/
inductive DataBus where
  | memory | auxiliary
deriving DecidableEq, Repr

/-- One thing the chip did that the outside world can see; the record is the model's own (log 27). -/
inductive HostOut where
  /-- an external I/O read of an address: the data lines sampled, whether the bank's Port E strobe was produced, and the
  byte received -/
  | extRead (bus : DataBus) (a : Word) (strobe : Bool) (v : Byte)
  /-- a permitted external I/O write: the data lines that carry its byte, the strobe, and the byte -/
  | extWrite (bus : DataBus) (a : Word) (strobe : Bool) (v : Byte)
  /-- an external I/O write whose write strobes were inhibited: its byte stands on the data lines all the same
  (`62_ports_io_banks.md` R741) -/
  | extWriteInhibited (bus : DataBus) (a : Word) (strobe : Bool) (v : Byte)
  /-- a character or byte left a serial transmitter -/
  | serialOut (p : SerialId) (c : TxChar)
  /-- HDLC: the CRC, an Abort, a closing Flag left a transmitter -/
  | serialMark (p : SerialId) (ph : TxPhase)
  /-- what a master read of the slave port returned -/
  | masterRead (a : BitVec 2) (v : Byte)
deriving DecidableEq, Repr

/-- Everything a step can touch outside the CPU registers and memory: the on-chip devices, the pins and the record of
what crossed the pins. -/
structure Dev where
  mmu : Mmu
  user : UserRegs
  viol : Violations
  sys : SysCtl
  rtc : Rtc
  wdt : Watchdog
  ports : Ports
  pins : Pins
  bus : ExtBus
  int0 : ExtInt
  int1 : ExtInt
  /-- the peripheral clock's divide-by-two -/
  half : Bool
  timerA : TimerA
  timerB : TimerB
  pwm : Pwm
  capture : Capture
  quad : Quad
  serial : Vector SerialPort 6
  slave : SlavePort
  boot : Boot
  /-- the SMODE1, SMODE0 pins -/
  smode : BitVec 2
  /-- the answers the host has ready for external I/O reads, next first; when empty, no device answers -/
  extIn : List Byte
  /-- what the chip has shown the outside world, newest first -/
  outLog : List HostOut
  /-- the model's own: how many cycles of the peripheral clock pass between the two byte reads of the next 16-bit I/O read
  (`20_memory.md` R67, log 18) -/
  inside : Nat
  /-- the model's own: how many free values have been drawn (log 6) -/
  free : Nat
deriving DecidableEq, Repr

/-- One thing the outside world does to the chip (`00_scope.md` R7, R9; `61` to `64`; `70`; log 18, 19). -/
inductive HostEvent where
  /-- this many cycles of the peripheral clock pass -/
  | perclk (n : Nat)
  /-- this many cycles of the 32.768 kHz oscillator pass -/
  | clk32k (n : Nat)
  /-- the host puts these levels on a port's pins -/
  | pins (p : PortId) (v : Byte)
  /-- the SMODE1, SMODE0 pins take this level -/
  | smode (v : BitVec 2)
  /-- this many of them pass between the two byte reads of the next 16-bit I/O read (`20_memory.md` R67) -/
  | perclkInside (n : Nat)
  /-- a cycle of the 32.768 kHz oscillator ends inside the next instruction, after this many of its byte writes; it matters
  when the watchdog times out on it (`70_reset_and_hazards.md` R900) -/
  | clk32kInside (writes : Nat)
  /-- the /RESET pin is held low long enough and released -/
  | reset
  /-- the same inside the next instruction, after this many of its byte writes (`70_reset_and_hazards.md` R900) -/
  | resetInside (writes : Nat)
  /-- an external device has these bytes ready for the next external I/O reads -/
  | extAnswer (vs : List Byte)
  /-- an asynchronous character arrived; `ninth` says its ninth bit (or stop bit) was low -/
  | serialChar (p : SerialId) (v : Byte) (ninth : Bool)
  /-- a start bit is detected -/
  | serialStart (p : SerialId)
  /-- a break condition ends -/
  | serialBreakEnd (p : SerialId)
  /-- HDLC with the external clock: the transmitter finished the byte, Flag, CRC byte or Abort it was sending -/
  | serialTxDone (p : SerialId)
  /-- clocked serial with the external clock: the first clock of a burst -/
  | serialBurstStart (p : SerialId)
  /-- clocked serial with the external clock: one clock of a burst, with the level on the receive line -/
  | serialClock (p : SerialId) (level : Bool)
  /-- clocked serial with the external clock: one burst of eight clocks has ended, with the byte on the receive line -/
  | serialBurst (p : SerialId) (v : Byte)
  /-- HDLC: a byte arrived with its two status bits (SxSR[6], SxSR[4]) and whether it is short -/
  | hdlcByte (p : SerialId) (v : Byte) (s6 s4 short : Bool)
  /-- HDLC: a Flag arrived -/
  | hdlcFlag (p : SerialId)
  /-- the slave-port master reads external address a -/
  | masterRead (a : BitVec 2)
  /-- the slave-port master writes v to external address a -/
  | masterWrite (a : BitVec 2) (v : Byte)
deriving DecidableEq, Repr

end Sys2Proof.Machine
end

