-- ==== Sys2Proof/Machine/Reset.lean ====
section
/-! DEFINITION. The reset values of the on-chip devices (`11_io_register_map.md` R952 to R956, `70_reset_and_hazards.md`
R900, R902).  Every bit the spec prints as x comes from the argument `fill`: zero for `State.reset` (log 3), free values for
a later reset of the running machine (log 25). -/
namespace Sys2Proof.Machine

/-- How many bytes of `fill` a reset uses. -/
def resetFillCount : Nat := 160

/-- The word made of two bytes of `fill`. -/
def fillWord (fill : Nat → Byte) (k : Nat) : Word := word (fill (k + 1)) (fill k)

/-- The control bits that exist in a function register (`62_ports_io_banks.md` R728, R729, Table 5-4). -/
def funcMask (rev : Rev) : TPort → Byte
  | .d => match rev with | .r3000 => 0x50 | .r3000A => 0xF0
  | .e => 0xFF
  | .f => 0xF3
  | .g => match rev with | .r3000 => 0x77 | .r3000A => 0xFF

/-- A port D to G after reset: inputs, transfers on perclk/2, everything else unspecified (`62_ports_io_banks.md` R724).  The
output register holds what the preload register holds, for a transfer on perclk/2 is immediate (R725). -/
def resetTimedPort (rev : Rev) (p : TPort) (fill : Nat → Byte) (k : Nat) : TimedPort where
  pre := fill k
  out := fill k
  cr := 0
  fr := if p = .e then 0 else fill (k + 2) &&& funcMask rev p
  dcr := if p = .e then 0 else fill (k + 3)
  ddr := 0

/-- The bits a revision's register tables print as x after reset, taken from `fill`; the other revision has zeros there
(`11_io_register_map.md` R952, R954, R958). -/
def fillOnR3000 (rev : Rev) (mask b : Byte) : Byte :=
  match rev with
  | .r3000 => b &&& mask
  | .r3000A => 0x00

/-- The memory management registers after reset; on REV = R3000 MTCR[7:4] and BDCR[6:0] are unspecified
(`11_io_register_map.md` R952, R956, R958; `21_memory_interface.md` R97, R98): zero in `State.reset` (DESIGN CHOICE, log 3),
free after any later reset (log 25). -/
def resetMmu (rev : Rev) (fill : Nat → Byte) : Mmu where
  mmidr := 0x00
  stackseg := 0x00
  dataseg := 0x00
  segsize := 0xFF
  mbcr := #v[0x08, fill 0, fill 1, fill 2]
  mecr := 0x00
  mtcr := fillOnR3000 rev 0xF0 (fill 130)
  bdcr := fillOnR3000 rev 0x7F (fill 131)
  ramsr := 0x00
  stkcr := 0x00
  stkllr := fill 3
  stkhlr := fill 4
  wpcr := 0x00
  wplr := 0x00
  wphr := 0x00
  wpsr := #v[0x00, 0x00]
  wpslr := #v[0x00, 0x00]
  wpshr := #v[0x00, 0x00]

/-- A capture channel after reset: trigger register zero, the rest unspecified (`63_timers_capture_pwm_qd.md` R800).  For the
hidden bits, whether the counter runs, the held byte and its mark, and the previous Start and Stop samples, the spec gives no
reset value (R804, R805): zero in `State.reset` (DESIGN CHOICE, log 3), free after any later reset (log 25). -/
def resetCapture (fill : Nat → Byte) (k : Nat) : CaptureChan where
  trig := 0x00
  src := fill k
  count := fillWord fill (k + 1)
  latch := fillWord fill (k + 3)
  hold := fill (k + 5)
  holding := bit (fill (k + 6)) 0
  running := bit (fill (k + 6)) 1
  lastStart := bit (fill (k + 6)) 2
  lastStop := bit (fill (k + 6)) 3

/-- A quadrature channel after reset: its counter and samples are unspecified (`63_timers_capture_pwm_qd.md` R813). -/
def resetQuad (fill : Nat → Byte) (k : Nat) : QuadChan where
  count := (fillWord fill k).setWidth 10
  raw := field2 (fill (k + 2)) 0
  filt := field2 (fill (k + 2)) 2

/-- A serial port after reset: nothing received, nothing to send; SxSR[6:5] unspecified, and bits 4 and 0 of SEER and SFER
(`64_serial_slave.md` R831).  The spec gives the receive shift register no reset value: it is zero in `State.reset` (DESIGN
CHOICE, log 3) and free after any later reset (log 25). -/
def resetSerial (hdlc : Bool) (fill : Nat → Byte) (k : Nat) : SerialPort where
  cr := 0
  er := if hdlc then fill k &&& 0x11 else 0x00
  rx := ⟨fill (k + 1), bit (fill (k + 2)) 6, false, false⟩
  rxFull := false
  overrun := bit (fill (k + 2)) 5
  rxWait := []
  rxLost := false
  txd := none
  txFifo := []
  tx := .idle
  txCause := 0
  abortPending := false
  rxReq := false
  txReq := false
  sendCode := false
  recvCode := false
  flagSearch := false
  held := false
  crcEnded := false
  afterCrc := false
  burst := none
  baud := 0
  rxShift := fill (k + 3)
  lastBit := none

/-- The on-chip devices after a reset.  Kept from before: the real-time clock and what belongs to the outside world; the
watchdog period is the caller's (`61_system_management.md` R682, `70_reset_and_hazards.md` R900).  With SMODE = 01 SPCR[3:2]
is forced to 10, and with SMODE other than 00 the bootstrap has control (`64_serial_slave.md` R871, R910).  On REV = R3000
GPSCR[3], QDCR[5:4] and IBxCR[1:0] are unspecified, and I0CR[7:6] and I1CR[7:6] on both (`11_io_register_map.md` R950 to
R958, `61_system_management.md` R676); so are Timer B's match registers, and of the hidden bit that marks a match value valid
the spec gives no reset value at all (`63_timers_capture_pwm_qd.md` R781), nor of the PWM's iteration count (R793), nor of the
address latch of the auxiliary I/O bus (`62_ports_io_banks.md` R743; nothing observes that one, for a write that enables the
bus draws it anew).  All of these are zero in `State.reset` (DESIGN CHOICE, log 3) and free after any later reset (log 25).  The secondary watchdog's down-counter has no stated reset value either: every
reset leaves it at the 0xFF of its time constant (DESIGN CHOICE, log 41); nothing observes it, for 5F reloads it before it
counts (`61_system_management.md` R684). -/
def Dev.atReset (rev : Rev) (fill : Nat → Byte) (cause : BitVec 2) (period : BitVec 17) (old : Dev) : Dev where
  mmu := resetMmu rev fill
  user := ⟨0x00, Vector.replicate 22 0x00⟩
  viol := ⟨false, false, false⟩
  sys := {
    cause := cause
    clockSel := 0
    periodicPrio := 0
    periodicReq := false
    tick := (fill 5).setWidth 4
    gcdr := 0x00
    gcm0r := 0x00
    gcm1r := 0x00
    gpscr := fillOnR3000 rev 0x08 (fill 132)
    gocr := 0x00 }
  rtc := { old.rtc with mode := .idle }
  wdt := {
    count := 0
    period := period
    test := 0x00
    disabled := false
    swdtr := 0xFF
    swdCount := 0xFF
    swdOn := false
    swdReq := false
    swdSeq := .none }
  ports := {
    pbOut := fill 6 &&& 0x3F
    pbddr := 0xC0
    pcOut := 0x15
    pcfr := 0x00
    d := resetTimedPort rev .d fill 8
    e := resetTimedPort rev .e fill 12
    f := resetTimedPort rev .f fill 16
    g := resetTimedPort rev .g fill 20 }
  pins := old.pins
  bus := ⟨Vector.ofFn fun k => fillOnR3000 rev 0x03 (fill (136 + k.val)), (fill 7).setWidth 6⟩
  int0 := ⟨fill 133 &&& 0xC0, false, false⟩
  int1 := ⟨fill 134 &&& 0xC0, false, false⟩
  half := bit (fill 24) 0
  timerA := {
    run := false
    ien := 0x00
    done := 0x00
    tacr := 0x00
    tapr0 := true
    reload := Vector.ofFn fun i => fill (30 + i.val)
    count := Vector.ofFn fun i => fill (40 + i.val) }
  timerB := {
    run := false
    ien := #v[false, false]
    stat := #v[false, false]
    tbcr := 0
    div8 := (fill 24).extractLsb' 1 3
    count := (fillWord fill 50).setWidth 10
    pre := #v[(fillWord fill 52).setWidth 10, (fillWord fill 54).setWidth 10]
    cmp := #v[(fillWord fill 56).setWidth 10, (fillWord fill 58).setWidth 10]
    valid := #v[bit (fill 24) 4, bit (fill 24) 5] }
  pwm := {
    pwl := Vector.ofFn fun i => match rev with | .r3000 => fill (60 + i.val) | .r3000A => fill (60 + i.val) &&& 0xF9
    pwm := Vector.ofFn fun i => fill (64 + i.val)
    count := (fillWord fill 68).setWidth 10
    iter := (fill 70).setWidth 3
    req := false }
  capture := {
    stat := 0x00
    ien := 0x00
    test := 0
    prio := 0
    chan := #v[resetCapture fill 72, resetCapture fill 80] }
  quad := {
    qdcr := fillOnR3000 rev 0x30 (fill 135)
    stat := fill 71 &&& 0xCC
    req := false
    chan := #v[resetQuad fill 88, resetQuad fill 92] }
  serial := #v[resetSerial false fill 100, resetSerial false fill 104, resetSerial false fill 108,
    resetSerial false fill 112, resetSerial true fill 116, resetSerial true fill 120]
  slave := {
    inR := #v[fill 124, fill 125, fill 126]
    outR := #v[fill 127, fill 128, fill 129]
    spsr := 0x00
    req := false
    ignoreSmode := false
    mode := if old.smode = 1 then 2 else 0
    prio := 0 }
  boot := ⟨old.smode != 0, old.smode, []⟩
  smode := old.smode
  extIn := old.extIn
  inside := old.inside
  outLog := old.outLog
  free := old.free

end Sys2Proof.Machine
end

