-- ==== Sys2Proof/Machine/State.lean ====
section
/-! DEFINITION. The machine's state as plain data, its faults and refusals, and the state after reset. -/
namespace Sys2Proof.Machine

/-- One set of the eight byte registers: main or alternate (`10_state.md` R20, R22). -/
structure RegSet where
  a : Byte
  f : Byte
  b : Byte
  c : Byte
  d : Byte
  e : Byte
  h : Byte
  l : Byte
deriving DecidableEq, Repr

/-- Where the marked data accesses of the next instruction go: the IOSPACE prefix latch (`10_state.md` R35). -/
inductive IoSpace where
  | memory | internal | external
deriving DecidableEq, Repr

/-- The CPU (`10_state.md` R20 to R35). -/
structure Cpu where
  main : RegSet
  alt : RegSet
  ix : Word
  iy : Word
  sp : Word
  pc : Word
  xpc : Byte
  ip : Byte
  iir : Byte
  eir : Byte
  /-- REV = R3000A only (R29) -/
  su : Byte
  /-- the ALTD prefix latch (R35) -/
  altd : Bool
  /-- the IOI / IOE prefix latch (R35) -/
  iospace : IoSpace
  /-- the interrupt deferral (R35): the instruction just completed was privileged -/
  defer : Bool
  /-- the model's own: the address of the current instruction's first byte, prefixes included, where a repeating block
  move returns to (`46_prefix_block.md` R486, log 23) -/
  start : Word
  /-- the model's own: the instruction just completed carried an I/O prefix (`70_reset_and_hazards.md` R930) -/
  lastIo : Bool
deriving DecidableEq, Repr

/-- Why the machine stops with a fault.  The hardware has none (`60_exceptions.md` R600, R601), so there is no
constructor: no step faults. -/
inductive Fault where
deriving DecidableEq, Repr

/-- Why a step has no meaning.  Every one is safe: the model stops where the spec says nothing or tells it to. -/
inductive Refusal where
  /-- an arm of `exec` that is not written yet; raised by `exec`; safe -/
  | notModelled (mnemonic : String)
  /-- an opcode byte its page does not assign; raised by `step` (`30_encoding.md` R135: refuse, log 21); safe -/
  | unassignedOpcode (page : String) (op : Byte)
  /-- a write of a reserved value to a field of an internal I/O register; raised by the stores
  (`93_implementation_defined.md` section 2: refuse, log 20); safe -/
  | reservedValue (register : String) (v : Byte)
  /-- a write to SxLR in clocked serial mode; raised by the stores (`64_serial_slave.md` R834, D38: refuse, log 33); safe -/
  | longStopInClockedMode (p : SerialId)
  /-- the 3000A PWM interrupt is due and the spec gives no vector; raised by `step` (`60_exceptions.md` R630, D30: refuse,
  log 13); safe -/
  | pwmVectorOpen
  /-- `USER_IPSET3` = refuse and User code runs IPSET 3, POP IP, RETI, SURES or POP SU; raised by those five
  (`60_exceptions.md` R658, D31, log 14); safe -/
  | userPriority (mnemonic : String)
deriving DecidableEq, Repr

/-- The whole machine. -/
structure State where
  /-- the implementation's parameters; no step changes them -/
  cfg : Params
  cpu : Cpu
  /-- memory behind the chip selects: (cell key, byte), keys strictly rising, no byte equal to what an unlisted cell reads -/
  mem : List Host.Cell
  dev : Dev
  /-- what the outside world will do: each event with the number of instructions before it (log 19) -/
  inbox : List (Nat × HostEvent)
  /-- the model's own: how many byte writes the running instruction still makes before a reset ends it; `none`: no reset
  falls inside it (`70_reset_and_hazards.md` R900, log 42) -/
  writesLeft : Option Nat
deriving DecidableEq, Repr

/-- The outcomes of a meaning. -/
abbrev Result := Host.Outcome State Fault Refusal

/-- The CPU registers after reset: PC, SP, IIR, EIR zero, IP all ones, SU[1:0] = 00 and no latch set (`10_state.md` R40);
the registers reset does not affect are zero here (DESIGN CHOICE, log 2). -/
def Cpu.reset : Cpu where
  main := ⟨0, 0, 0, 0, 0, 0, 0, 0⟩
  alt := ⟨0, 0, 0, 0, 0, 0, 0, 0⟩
  ix := 0
  iy := 0
  sp := 0
  pc := 0
  xpc := 0
  ip := 0xFF
  iir := 0
  eir := 0
  su := 0
  altd := false
  iospace := .memory
  defer := false
  start := 0
  lastIo := false

/-- What a reset keeps, before the first power-up: the real-time clock and the pins at zero (DESIGN CHOICE, log 3), SMODE =
00, nothing received, nothing shown.  Its other fields are zero and `Dev.atReset` replaces them. -/
def Dev.powerUp : Dev where
  mmu := resetMmu Params.default.rev fun _ => 0
  user := ⟨0, Vector.replicate 22 0⟩
  viol := ⟨false, false, false⟩
  sys := ⟨0, 0, 0, false, 0, 0, 0, 0, 0, 0⟩
  rtc := ⟨0, 0, .idle⟩
  wdt := ⟨0, 0x10000, 0, false, 0, 0, false, false, .none⟩
  ports := ⟨0, 0, 0, 0, ⟨0, 0, 0, 0, 0, 0⟩, ⟨0, 0, 0, 0, 0, 0⟩, ⟨0, 0, 0, 0, 0, 0⟩, ⟨0, 0, 0, 0, 0, 0⟩⟩
  pins := ⟨0, 0, 0, 0, 0, 0, 0⟩
  bus := ⟨Vector.replicate 8 0, 0⟩
  int0 := ⟨0, false, false⟩
  int1 := ⟨0, false, false⟩
  half := false
  timerA := ⟨false, 0, 0, 0, true, Vector.replicate 10 0, Vector.replicate 10 0⟩
  timerB := ⟨false, #v[false, false], #v[false, false], 0, 0, 0, #v[0, 0], #v[0, 0], #v[false, false]⟩
  pwm := ⟨Vector.replicate 4 0, Vector.replicate 4 0, 0, 0, false⟩
  capture := ⟨0, 0, 0, 0, #v[⟨0, 0, 0, 0, 0, false, false, false, false⟩, ⟨0, 0, 0, 0, 0, false, false, false, false⟩]⟩
  quad := ⟨0, 0, false, #v[⟨0, 0, 0⟩, ⟨0, 0, 0⟩]⟩
  serial := Vector.replicate 6 (resetSerial false (fun _ => 0) 0)
  slave := ⟨#v[0, 0, 0], #v[0, 0, 0], 0, false, false, 0, 0⟩
  boot := ⟨false, 0, []⟩
  smode := 0
  extIn := []
  inside := 0
  outLog := []
  free := 0

/-- The machine right after a /RESET with SMODE = 00 (`70_reset_and_hazards.md` R900, R903): every value the spec gives, and
zero where it prints x (log 2, 3); the two-second watchdog period (R682, D33); memory with nothing listed; the default
parameters (log 1, 5). -/
def State.reset : State where
  cfg := Params.default
  cpu := Cpu.reset
  mem := []
  dev := Dev.atReset Params.default.rev (fun _ => 0) 3 0x10000 Dev.powerUp
  inbox := []
  writesLeft := none

end Sys2Proof.Machine
end

