-- ==== Sys2Proof/Syntax.lean ====
section
/-! DEFINITION. The instructions: one constructor of `Instr` for each of the 251 rows of `opcode_table.json`, named after
the row's mnemonic (`At` stands for a parenthesised memory operand, `a` after a register pair for its alternate), with the
operand selectors of `00_scope.md` R12. -/
namespace Sys2Proof

/-- The byte register select `r`, `g` (`00_scope.md` R12; code 110 is no register). -/
inductive R8 where
  | b | c | d | e | h | l | a
deriving DecidableEq, Repr

/-- The word register select `ss`, `dd` (`00_scope.md` R12). -/
inductive SS where
  | bc | de | hl | sp
deriving DecidableEq, Repr

/-- The alternate word register select `dd'` (`00_scope.md` R12). -/
inductive DDa where
  | bc | de | hl
deriving DecidableEq, Repr

/-- The word register select `xx` (`00_scope.md` R12). -/
inductive XX where
  | bc | de | ix | sp
deriving DecidableEq, Repr

/-- The word register select `yy` (`00_scope.md` R12). -/
inductive YY where
  | bc | de | iy | sp
deriving DecidableEq, Repr

/-- The word register select `zz` (`00_scope.md` R12). -/
inductive ZZ where
  | bc | de | hl | af
deriving DecidableEq, Repr

/-- The eight conditions `f` (`00_scope.md` R12). -/
inductive Cond where
  | nz | z | nc | c | lz | lo | p | m
deriving DecidableEq, Repr

/-- The four conditions `cc` (`00_scope.md` R12). -/
inductive CC where
  | nz | z | nc | c
deriving DecidableEq, Repr

/-- The five restart operands `v` (`00_scope.md` R12). -/
inductive RstV where
  | v10 | v18 | v20 | v28 | v38
deriving DecidableEq, Repr

/-- The instructions of the Rabbit 3000 and 3000A. -/
inductive Instr where
  -- Immediate and direct loads (`40_load_immediate_direct.md`)
  | ldIxMn (mn : Word)
  | ldIyMn (mn : Word)
  | ldDdMn (dd : SS) (mn : Word)
  | ldRN (r : R8) (n : Byte)
  | ldAtMnA (mn : Word)
  | ldAAtMn (mn : Word)
  | ldAtMnHl (mn : Word)
  | ldAtMnIx (mn : Word)
  | ldAtMnIy (mn : Word)
  | ldAtMnSs (mn : Word) (ss : SS)
  | ldHlAtMn (mn : Word)
  | ldIxAtMn (mn : Word)
  | ldIyAtMn (mn : Word)
  | ldDdAtMn (dd : SS) (mn : Word)
  -- Indexed, indirect and 20-bit loads (`41_load_indexed.md`)
  | ldAAtBc
  | ldAAtDe
  | ldAtBcA
  | ldAtDeA
  | ldAtHlN (n : Byte)
  | ldAtHlR (r : R8)
  | ldRAtHl (r : R8)
  | ldAtIxDN (d : Byte) (n : Byte)
  | ldAtIxDR (d : Byte) (r : R8)
  | ldRAtIxD (r : R8) (d : Byte)
  | ldAtIyDN (d : Byte) (n : Byte)
  | ldAtIyDR (d : Byte) (r : R8)
  | ldRAtIyD (r : R8) (d : Byte)
  | ldAtHlDHl (d : Byte)
  | ldHlAtHlD (d : Byte)
  | ldAtSpNHl (n : Byte)
  | ldAtSpNIx (n : Byte)
  | ldAtSpNIy (n : Byte)
  | ldHlAtSpN (n : Byte)
  | ldIxAtSpN (n : Byte)
  | ldIyAtSpN (n : Byte)
  | ldAtIxDHl (d : Byte)
  | ldHlAtIxD (d : Byte)
  | ldAtIyDHl (d : Byte)
  | ldHlAtIyD (d : Byte)
  | ldpAtHlHl
  | ldpAtIxHl
  | ldpAtIyHl
  | ldpHlAtHl
  | ldpHlAtIx
  | ldpHlAtIy
  | ldpAtMnHl (mn : Word)
  | ldpAtMnIx (mn : Word)
  | ldpAtMnIy (mn : Word)
  | ldpHlAtMn (mn : Word)
  | ldpIxAtMn (mn : Word)
  | ldpIyAtMn (mn : Word)
  -- Moves, exchanges, stack (`42_move_exchange_stack.md`)
  | ldRG (r : R8) (g : R8)
  | ldAEir
  | ldAIir
  | ldAXpc
  | ldEirA
  | ldIirA
  | ldXpcA
  | ldHlIx
  | ldHlIy
  | ldIxHl
  | ldIyHl
  | ldSpHl
  | ldSpIx
  | ldSpIy
  | ldDdaBc (dd : DDa)
  | ldDdaDe (dd : DDa)
  | exAtSpHl
  | exAtSpIx
  | exAtSpIy
  | exAfAfa
  | exDeaHl
  | exDeaHla
  | exDeHl
  | exDeHla
  | exx
  | popIp
  | popIx
  | popIy
  | popZz (zz : ZZ)
  | pushIp
  | pushIx
  | pushIy
  | pushZz (zz : ZZ)
  | addSpD (d : Byte)
  -- 16-bit arithmetic and logic (`43_arith16.md`)
  | adcHlSs (ss : SS)
  | addHlSs (ss : SS)
  | addIxXx (xx : XX)
  | addIyYy (yy : YY)
  | andHlDe
  | andIxDe
  | andIyDe
  | boolHl
  | boolIx
  | boolIy
  | decIx
  | decIy
  | decSs (ss : SS)
  | incIx
  | incIy
  | incSs (ss : SS)
  | mul
  | orHlDe
  | orIxDe
  | orIyDe
  | rlDe
  | rrDe
  | rrHl
  | rrIx
  | rrIy
  | sbcHlSs (ss : SS)
  -- 8-bit arithmetic and logic (`44_arith8.md`)
  | adcAAtHl
  | adcAAtIxD (d : Byte)
  | adcAAtIyD (d : Byte)
  | adcAN (n : Byte)
  | adcAR (r : R8)
  | addAAtHl
  | addAAtIxD (d : Byte)
  | addAAtIyD (d : Byte)
  | addAN (n : Byte)
  | addAR (r : R8)
  | andAtHl
  | andAtIxD (d : Byte)
  | andAtIyD (d : Byte)
  | andN (n : Byte)
  | andR (r : R8)
  | cpAtHl
  | cpAtIxD (d : Byte)
  | cpAtIyD (d : Byte)
  | cpN (n : Byte)
  | cpR (r : R8)
  | orAtHl
  | orAtIxD (d : Byte)
  | orAtIyD (d : Byte)
  | orN (n : Byte)
  | orR (r : R8)
  | sbcAAtHl
  | sbcAAtIxD (d : Byte)
  | sbcAAtIyD (d : Byte)
  | sbcAN (n : Byte)
  | sbcAR (r : R8)
  | subAtHl
  | subAtIxD (d : Byte)
  | subAtIyD (d : Byte)
  | subN (n : Byte)
  | subR (r : R8)
  | xorAtHl
  | xorAtIxD (d : Byte)
  | xorAtIyD (d : Byte)
  | xorN (n : Byte)
  | xorR (r : R8)
  | decAtHl
  | decAtIxD (d : Byte)
  | decAtIyD (d : Byte)
  | decR (r : R8)
  | incAtHl
  | incAtIxD (d : Byte)
  | incAtIyD (d : Byte)
  | incR (r : R8)
  | cpl
  | neg
  | rla
  | rlca
  | rra
  | rrca
  -- Bit operations, shifts and rotates (`45_bit_shift.md`)
  | bitBAtHl (b : BitVec 3)
  | bitBAtIxD (b : BitVec 3) (d : Byte)
  | bitBAtIyD (b : BitVec 3) (d : Byte)
  | bitBR (b : BitVec 3) (r : R8)
  | resBAtHl (b : BitVec 3)
  | resBAtIxD (b : BitVec 3) (d : Byte)
  | resBAtIyD (b : BitVec 3) (d : Byte)
  | resBR (b : BitVec 3) (r : R8)
  | setBAtHl (b : BitVec 3)
  | setBAtIxD (b : BitVec 3) (d : Byte)
  | setBAtIyD (b : BitVec 3) (d : Byte)
  | setBR (b : BitVec 3) (r : R8)
  | rlAtHl
  | rlAtIxD (d : Byte)
  | rlAtIyD (d : Byte)
  | rlR (r : R8)
  | rlcAtHl
  | rlcAtIxD (d : Byte)
  | rlcAtIyD (d : Byte)
  | rlcR (r : R8)
  | rrAtHl
  | rrAtIxD (d : Byte)
  | rrAtIyD (d : Byte)
  | rrR (r : R8)
  | rrcAtHl
  | rrcAtIxD (d : Byte)
  | rrcAtIyD (d : Byte)
  | rrcR (r : R8)
  | slaAtHl
  | slaAtIxD (d : Byte)
  | slaAtIyD (d : Byte)
  | slaR (r : R8)
  | sraAtHl
  | sraAtIxD (d : Byte)
  | sraAtIyD (d : Byte)
  | sraR (r : R8)
  | srlAtHl
  | srlAtIxD (d : Byte)
  | srlAtIyD (d : Byte)
  | srlR (r : R8)
  -- Prefixes and block moves (`46_prefix_block.md`)
  | altd
  | ioi
  | ioe
  | ldd
  | lddr
  | ldi
  | ldir
  -- Jumps, calls, returns (`47_control.md`)
  | callMn (mn : Word)
  | djnzE (e : Byte)
  | jpAtHl
  | jpAtIx
  | jpAtIy
  | jpFMn (f : Cond) (mn : Word)
  | jpMn (mn : Word)
  | jrCcE (cc : CC) (e : Byte)
  | jrE (e : Byte)
  | lcallXMn (x : Byte) (mn : Word)
  | ljpXMn (x : Byte) (mn : Word)
  | lret
  | ret
  | retF (f : Cond)
  | reti
  | rstV (v : RstV)
  -- Miscellaneous and interrupt priority (`48_misc_privileged.md`)
  | ccf
  | ipset0
  | ipset1
  | ipset2
  | ipset3
  | ipres
  | nop
  | scf
  -- The Rabbit 3000A instructions (`49_r3000a_opcodes.md`)
  | uma
  | ums
  | lddsr
  | ldisr
  | lsdr
  | lsir
  | lsddr
  | lsidr
  | setusr
  | pushSu
  | popSu
  | sures
  | idet
  | rdmode
  | syscall
deriving DecidableEq, Repr

end Sys2Proof
end

