-- ==== Sys2Proof/Machine/Operands.lean ====
section
/-! DEFINITION. The operand forms: register selects, pairs, the destination an ALTD prefix redirects, conditions and
effective addresses (`00_scope.md` R11, R12; `10_state.md` R20 to R35; `41_load_indexed.md` R190; `46_prefix_block.md` R470). -/
namespace Sys2Proof.Machine

/-- BC of a register set. -/
def RegSet.bc (r : RegSet) : Word := word r.b r.c

/-- DE of a register set. -/
def RegSet.de (r : RegSet) : Word := word r.d r.e

/-- HL of a register set. -/
def RegSet.hl (r : RegSet) : Word := word r.h r.l

/-- AF of a register set: A above F (`42_move_exchange_stack.md` R284, R288). -/
def RegSet.af (r : RegSet) : Word := word r.a r.f

/-- BC replaced. -/
def RegSet.setBc (r : RegSet) (w : Word) : RegSet := { r with b := hiByte w, c := loByte w }

/-- DE replaced. -/
def RegSet.setDe (r : RegSet) (w : Word) : RegSet := { r with d := hiByte w, e := loByte w }

/-- HL replaced. -/
def RegSet.setHl (r : RegSet) (w : Word) : RegSet := { r with h := hiByte w, l := loByte w }

/-- AF replaced, all eight bits of F (`42_move_exchange_stack.md` R284). -/
def RegSet.setAf (r : RegSet) (w : Word) : RegSet := { r with a := hiByte w, f := loByte w }

/-- The byte register a select names (`00_scope.md` R12). -/
def RegSet.r8 (s : RegSet) : R8 → Byte
  | .a => s.a | .b => s.b | .c => s.c | .d => s.d | .e => s.e | .h => s.h | .l => s.l

/-- The byte register a select names, replaced. -/
def RegSet.setR8 (s : RegSet) (r : R8) (v : Byte) : RegSet :=
  match r with
  | .a => { s with a := v } | .b => { s with b := v } | .c => { s with c := v } | .d => { s with d := v }
  | .e => { s with e := v } | .h => { s with h := v } | .l => { s with l := v }

/-- The word register an alternate select names (`00_scope.md` R12, `dd'`). -/
def RegSet.setDda (s : RegSet) (dd : DDa) (w : Word) : RegSet :=
  match dd with
  | .bc => s.setBc w | .de => s.setDe w | .hl => s.setHl w

/-- The pair a `zz` select names. -/
def RegSet.zz (s : RegSet) : ZZ → Word
  | .bc => s.bc | .de => s.de | .hl => s.hl | .af => s.af

/-- The pair a `zz` select names, replaced. -/
def RegSet.setZz (s : RegSet) (zz : ZZ) (w : Word) : RegSet :=
  match zz with
  | .bc => s.setBc w | .de => s.setDe w | .hl => s.setHl w | .af => s.setAf w

/-- The main A. -/
def State.a (s : State) : Byte := s.cpu.main.a

/-- The main F. -/
def State.f (s : State) : Byte := s.cpu.main.f

/-- The main BC. -/
def State.bc (s : State) : Word := s.cpu.main.bc

/-- The main DE. -/
def State.de (s : State) : Word := s.cpu.main.de

/-- The main HL. -/
def State.hl (s : State) : Word := s.cpu.main.hl

/-- A main byte register: sources are never the alternates (`46_prefix_block.md` R470). -/
def State.r8 (s : State) (r : R8) : Byte := s.cpu.main.r8 r

/-- The word register `ss`, `dd` (`00_scope.md` R12). -/
def State.ss (s : State) : SS → Word
  | .bc => s.bc | .de => s.de | .hl => s.hl | .sp => s.cpu.sp

/-- The word register `xx`. -/
def State.xx (s : State) : XX → Word
  | .bc => s.bc | .de => s.de | .ix => s.cpu.ix | .sp => s.cpu.sp

/-- The word register `yy`. -/
def State.yy (s : State) : YY → Word
  | .bc => s.bc | .de => s.de | .iy => s.cpu.iy | .sp => s.cpu.sp

/-- The word register `zz`. -/
def State.zz (s : State) (zz : ZZ) : Word := s.cpu.main.zz zz

/-- The main registers changed. -/
def State.onMain (s : State) (g : RegSet → RegSet) : State := { s with cpu := { s.cpu with main := g s.cpu.main } }

/-- The alternate registers changed. -/
def State.onAlt (s : State) (g : RegSet → RegSet) : State := { s with cpu := { s.cpu with alt := g s.cpu.alt } }

/-- `dst()`: the alternate registers under ALTD, else the main ones (`00_scope.md` R11, `46_prefix_block.md` R470, R471). -/
def State.onDst (s : State) (g : RegSet → RegSet) : State := if s.cpu.altd then s.onAlt g else s.onMain g

/-- IX replaced. -/
def State.setIx (s : State) (w : Word) : State := { s with cpu := { s.cpu with ix := w } }

/-- IY replaced. -/
def State.setIy (s : State) (w : Word) : State := { s with cpu := { s.cpu with iy := w } }

/-- SP replaced. -/
def State.setSp (s : State) (w : Word) : State := { s with cpu := { s.cpu with sp := w } }

/-- PC replaced. -/
def State.setPc (s : State) (w : Word) : State := { s with cpu := { s.cpu with pc := w } }

/-- XPC replaced. -/
def State.setXpc (s : State) (v : Byte) : State := { s with cpu := { s.cpu with xpc := v } }

/-- IP replaced. -/
def State.setIp (s : State) (v : Byte) : State := { s with cpu := { s.cpu with ip := v } }

/-- SU replaced (`10_state.md` R29). -/
def State.setSu (s : State) (v : Byte) : State := { s with cpu := { s.cpu with su := v } }

/-- `dst(r) <- v`. -/
def State.setDst8 (s : State) (r : R8) (v : Byte) : State := s.onDst fun x => x.setR8 r v

/-- `dst(HL) <- w`. -/
def State.setDstHl (s : State) (w : Word) : State := s.onDst fun x => x.setHl w

/-- `dst(DE) <- w`. -/
def State.setDstDe (s : State) (w : Word) : State := s.onDst fun x => x.setDe w

/-- `dst(ss) <- w`; SP has no alternate and is written whatever ALTD says (`46_prefix_block.md` R471, D16). -/
def State.setDstSs (s : State) (ss : SS) (w : Word) : State :=
  match ss with
  | .bc => s.onDst fun x => x.setBc w
  | .de => s.setDstDe w
  | .hl => s.setDstHl w
  | .sp => s.setSp w

/-- `dst(zz) <- w`. -/
def State.setDstZz (s : State) (zz : ZZ) (w : Word) : State := s.onDst fun x => x.setZz zz w

/-- The flag register the instruction writes, changed: F, or F' under ALTD (`46_prefix_block.md` R471). -/
def State.onFlags (s : State) (g : Byte → Byte) : State := s.onDst fun x => { x with f := g x.f }

/-- The main F changed, whatever ALTD says. -/
def State.onMainFlags (s : State) (g : Byte → Byte) : State := s.onMain fun x => { x with f := g x.f }

/-- `IX + sext_8(d)` (`41_load_indexed.md` R190). -/
def State.eaIx (s : State) (d : Byte) : Word := s.cpu.ix + sext8 d

/-- `IY + sext_8(d)` (`41_load_indexed.md` R190). -/
def State.eaIy (s : State) (d : Byte) : Word := s.cpu.iy + sext8 d

/-- `HL + sext_8(d)` (`41_load_indexed.md` R190). -/
def State.eaHl (s : State) (d : Byte) : Word := s.hl + sext8 d

/-- `SP + zext_8(n)` (`41_load_indexed.md` R190). -/
def State.eaSp (s : State) (n : Byte) : Word := s.cpu.sp + zext8 n

/-- A relative jump taken from the address after the instruction (`47_control.md` R502, R508, R509). -/
def State.jumpBy (s : State) (e : Byte) : State := s.setPc (s.cpu.pc + sext8 e)

end Sys2Proof.Machine
end

