-- ==== Sys2Proof/Machine/Flags.lean ====
section
/-! DEFINITION. The flags of F (`10_state.md` R30 to R33) and every flag computation of the instruction files
(`43_arith16.md` R300, `44_arith8.md` R350, `45_bit_shift.md` R420, R433). -/
namespace Sys2Proof.Machine

/-- S is bit 7 of F (`10_state.md` R32, D1, log 7). -/
def flagS (f : Byte) : Bool := bit f 7

/-- Z is bit 6 of F. -/
def flagZ (f : Byte) : Bool := bit f 6

/-- L/V is bit 2 of F. -/
def flagLv (f : Byte) : Bool := bit f 2

/-- C is bit 0 of F. -/
def flagC (f : Byte) : Bool := bit f 0

/-- The main carry (`10_state.md` R33). -/
def State.carry (s : State) : Bool := flagC s.f

/-- The four flags of a result. -/
structure FlagSet where
  s : Bool
  z : Bool
  lv : Bool
  c : Bool
deriving DecidableEq, Repr

/-- F with only C written (`46_prefix_block.md` R471, D23). -/
def putC (c : Bool) (f : Byte) : Byte := setBit f 0 c

/-- F with only Z written. -/
def putZ (z : Bool) (f : Byte) : Byte := setBit f 6 z

/-- F with only L/V written. -/
def putLv (v : Bool) (f : Byte) : Byte := setBit f 2 v

/-- F with only S and Z written. -/
def putSZ (s z : Bool) (f : Byte) : Byte := setBit (setBit f 7 s) 6 z

/-- F with S, Z and L/V written. -/
def putSZV (x : FlagSet) (f : Byte) : Byte := setBit (setBit (setBit f 7 x.s) 6 x.z) 2 x.lv

/-- F with all four flags written; the four unused bits keep their values (`10_state.md` R32, D2, log 8). -/
def putFlags (x : FlagSet) (f : Byte) : Byte := setBit (putSZV x f) 0 x.c

/-- Whether a condition `f` holds (`47_control.md` R500). -/
def condHolds (k : Cond) (f : Byte) : Bool :=
  match k with
  | .nz => !flagZ f
  | .z => flagZ f
  | .nc => !flagC f
  | .c => flagC f
  | .lz => !flagLv f
  | .lo => flagLv f
  | .p => !flagS f
  | .m => flagS f

/-- Whether a condition `cc` holds (`47_control.md` R500). -/
def ccHolds (k : CC) (f : Byte) : Bool :=
  match k with
  | .nz => !flagZ f
  | .z => flagZ f
  | .nc => !flagC f
  | .c => flagC f

/-- A signed number of w bits outside its range: overflow (`10_state.md` R31). -/
def outside (w : Nat) (t : Int) : Bool := decide (t < -(2 ^ (w - 1))) || decide (2 ^ (w - 1) ≤ t)

/-- `a + b + c`, with S, Z, V and the carry out (`44_arith8.md` R350 (a), `43_arith16.md` R301). -/
def addFlags {w : Nat} (a b : BitVec w) (c : Bool) : BitVec w × FlagSet :=
  let res := a + b + (bit1 c).setWidth w
  (res, ⟨res.msb, decide (res = 0), outside w (a.toInt + b.toInt + c.toNat), decide (2 ^ w ≤ a.toNat + b.toNat + c.toNat)⟩)

/-- `a - b - c`, with S, Z, V and the borrow (`44_arith8.md` R350 (b), `43_arith16.md` R326). -/
def subFlags {w : Nat} (a b : BitVec w) (c : Bool) : BitVec w × FlagSet :=
  let res := a - b - (bit1 c).setWidth w
  (res, ⟨res.msb, decide (res = 0), outside w (a.toInt - b.toInt - c.toNat), decide (a.toNat < b.toNat + c.toNat)⟩)

/-- The logical check: whether any of the four most significant bits is 1 (`44_arith8.md` R350 (c)). -/
def topBits {w : Nat} (res : BitVec w) : Bool := decide (res.extractLsb' (w - 4) 4 ≠ 0)

/-- The flags of a logical result: C = 0 (`44_arith8.md` R350 (c), `43_arith16.md` R305). -/
def logicFlags {w : Nat} (res : BitVec w) : FlagSet := ⟨res.msb, decide (res = 0), topBits res, false⟩

/-- The flags of a shift or rotate result with its carry out (`45_bit_shift.md` R433, `43_arith16.md` R321). -/
def shiftFlags {w : Nat} (res : BitVec w) (c : Bool) : FlagSet := ⟨res.msb, decide (res = 0), topBits res, c⟩

/-- The flags of BOOL: S, L/V and C are zero (`43_arith16.md` R308). -/
def boolFlags (res : Word) : FlagSet := ⟨res.msb, decide (res = 0), false, false⟩

/-- `INC`: the result and S, Z, V; C is not written (`44_arith8.md` R396). -/
def incFlags (old : Byte) : Byte × FlagSet :=
  (old + 1, ⟨(old + 1).msb, decide (old + 1 = 0), decide (old = 0x7F), false⟩)

/-- `DEC`: the result and S, Z, V; C is not written (`44_arith8.md` R392). -/
def decFlags (old : Byte) : Byte × FlagSet :=
  (old - 1, ⟨(old - 1).msb, decide (old - 1 = 0), decide (old = 0x80), false⟩)

/-- SUB's flags: its carry is the parameter `SUB_CARRY_SENSE` (`44_arith8.md` R350 (d), D5, log 9). -/
def subCarryFlags (sense : SubCarry) (x : FlagSet) : FlagSet :=
  match sense with
  | .asDocumented => { x with c := !x.c }
  | .borrow => x

/-- The eight two-operand ALU operations (`44_arith8.md` R351). -/
inductive AluOp where
  | add | adc | sub | sbc | and | xor | or | cp
deriving DecidableEq, Repr

/-- The result and flags of an ALU operation on A, the operand and the main carry (`44_arith8.md` R350, R352 to R391). -/
def alu (sense : SubCarry) (op : AluOp) (a b : Byte) (cin : Bool) : Byte × FlagSet :=
  match op with
  | .add => addFlags a b false
  | .adc => addFlags a b cin
  | .sub => ((subFlags a b false).1, subCarryFlags sense (subFlags a b false).2)
  | .sbc => subFlags a b cin
  | .and => (a &&& b, logicFlags (a &&& b))
  | .xor => (a ^^^ b, logicFlags (a ^^^ b))
  | .or => (a ||| b, logicFlags (a ||| b))
  | .cp => subFlags a b false

/-- The seven shifts and rotates of the CB page (`45_bit_shift.md` R433). -/
inductive ShiftOp where
  | rlc | rrc | rl | rr | sla | sra | srl
deriving DecidableEq, Repr

/-- The result and the carry out of a shift (`45_bit_shift.md` R433). -/
def shift8 (op : ShiftOp) (v : Byte) (cin : Bool) : Byte × Bool :=
  match op with
  | .rlc => (v.extractLsb' 0 7 ++ v.extractLsb' 7 1, bit v 7)
  | .rrc => (v.extractLsb' 0 1 ++ v.extractLsb' 1 7, bit v 0)
  | .rl => (v.extractLsb' 0 7 ++ bit1 cin, bit v 7)
  | .rr => (bit1 cin ++ v.extractLsb' 1 7, bit v 0)
  | .sla => (v.extractLsb' 0 7 ++ 0#1, bit v 7)
  | .sra => (v.extractLsb' 7 1 ++ v.extractLsb' 1 7, bit v 0)
  | .srl => (0#1 ++ v.extractLsb' 1 7, bit v 0)

/-- The 16-bit rotate left through carry (`43_arith16.md` R321). -/
def rl16 (v : Word) (cin : Bool) : Word × Bool := (v.extractLsb' 0 15 ++ bit1 cin, bit v 15)

/-- The 16-bit rotate right through carry (`43_arith16.md` R322). -/
def rr16 (v : Word) (cin : Bool) : Word × Bool := (bit1 cin ++ v.extractLsb' 1 15, bit v 0)

/-- The mask of a bit select (`45_bit_shift.md` R420). -/
def bitMask (b : BitVec 3) : Byte := 1#8 <<< b.toNat

end Sys2Proof.Machine
end

