-- ==== Sys2Proof/Machine/Memory.lean ====
section
/-! DEFINITION. Memory: the cells behind the chip selects, the translation of a logical address (`20_memory.md` R59 to R62),
the memory interface unit (R64), and the write protection of REV = R3000A (`21_memory_interface.md` R110). -/
namespace Sys2Proof.Machine

/-- How many cells there are: six devices of at most 2^20 bytes (`20_memory.md` R51, R64). -/
def cellCount : Nat := 6 * 0x100000

/-- What an unlisted cell reads as: the contents of memory after power-up are not given (DESIGN CHOICE, log 4). -/
def unlistedByte : Byte := 0x00

/-- The byte at a cell. -/
def cellRead : List Host.Cell → Nat → Byte
  | [], _ => unlistedByte
  | (k, v) :: rest, key => if key = k then v else cellRead rest key

/-- The cells after a byte is stored, in canonical form. -/
def cellWrite : List Host.Cell → Nat → Byte → List Host.Cell
  | [], key, v => if v = unlistedByte then [] else [(key, v)]
  | (k, x) :: rest, key, v =>
    if key < k then (if v = unlistedByte then (k, x) :: rest else (key, v) :: (k, x) :: rest)
    else if key = k then (if v = unlistedByte then rest else (key, v) :: rest)
    else (k, x) :: cellWrite rest key v

/-- The canonical form from key `lo` on: keys strictly rising and inside the cells, no entry equal to `unlistedByte`. -/
def Memory.wfFrom : Nat → List Host.Cell → Bool
  | _, [] => true
  | lo, (k, v) :: rest => decide (lo ≤ k) && decide (k < cellCount) && decide (v ≠ unlistedByte) && Memory.wfFrom (k + 1) rest

/-- The canonical form of memory. -/
def Memory.wf (m : List Host.Cell) : Bool := Memory.wfFrom 0 m

/-- The four segments of the logical space (`20_memory.md` R54). -/
inductive Seg where
  | root | data | stack | xpc
deriving DecidableEq, Repr

/-- An access made by `Fetch8()` or a data access (`20_memory.md` R61). -/
inductive Access where
  | fetch | data
deriving DecidableEq, Repr

/-- The upper four bits of a logical address. -/
def topNibble (a : Word) : Nat := (a.extractLsb' 12 4).toNat

/-- `Seg(a)` (`20_memory.md` R59). -/
def segOf (m : Mmu) (a : Word) : Seg :=
  if 0xE ≤ topNibble a then .xpc
  else if (m.segsize.extractLsb' 4 4).toNat ≤ topNibble a then .stack
  else if (m.segsize.extractLsb' 0 4).toNat ≤ topNibble a then .data
  else .root

/-- `RamSegMatch(a)` (`20_memory.md` R62, `21_memory_interface.md` R100). -/
def ramSegMatch (rev : Rev) (m : Mmu) (a : Word) : Bool :=
  match rev with
  | .r3000 => false
  | .r3000A =>
    if field2 m.ramsr 0 = 1 then a.extractLsb' 10 6 = m.ramsr.extractLsb' 2 6
    else if field2 m.ramsr 0 = 2 then a.extractLsb' 11 5 = m.ramsr.extractLsb' 3 5
    else if field2 m.ramsr 0 = 3 then a.extractLsb' 12 4 = m.ramsr.extractLsb' 4 4
    else false

/-- The segment register added to an address (`20_memory.md` R60). -/
def segBase (m : Mmu) (xpc : Byte) : Seg → Byte
  | .root => 0x00
  | .data => m.dataseg
  | .stack => m.stackseg
  | .xpc => xpc

/-- The A16 and A19 inversions a segment has (`20_memory.md` R60, R61; `21_memory_interface.md` R90). -/
def segInversion (m : Mmu) : Seg → Phys
  | .root => (if bit m.mmidr 0 then 0x10000 else 0) ||| (if bit m.mmidr 1 then 0x80000 else 0)
  | .data => (if bit m.mmidr 2 then 0x10000 else 0) ||| (if bit m.mmidr 3 then 0x80000 else 0)
  | .stack => 0
  | .xpc => 0

/-- Whether the inversions apply to an access (`20_memory.md` R60, R61, R62). -/
def inversionApplies (rev : Rev) (m : Mmu) (a : Word) (k : Access) : Bool :=
  !bit m.mmidr 5 || decide (k = .data) || ramSegMatch rev m a

/-- `Translate(a, kind)` (`20_memory.md` R60). -/
def translate (rev : Rev) (m : Mmu) (xpc : Byte) (a : Word) (k : Access) : Phys :=
  let seg := segOf m a
  let pa : Phys := a.setWidth 20 + ((segBase m xpc seg).setWidth 20 <<< 12)
  if inversionApplies rev m a k then pa ^^^ segInversion m seg else pa

/-- The memory bank control register an access uses; `mecr` says whether it came through the XPC window
(`20_memory.md` R64, `21_memory_interface.md` R95). -/
def bankControl (m : Mmu) (xpcWindow : Bool) (pa : Phys) : Byte :=
  let q : BitVec 2 := if bit m.mecr 2 && xpcWindow then field2 m.mecr 0 else field2 pa 18
  m.mbcr[q.toNat]'q.isLt

/-- Which device a bank control names: 2 * (chip select) + (enable pair) (`20_memory.md` R64). -/
def deviceIndex (mb : Byte) : Fin 6 :=
  if bit mb 1 then (if bit mb 2 then 5 else 4)
  else if bit mb 0 then (if bit mb 2 then 3 else 2)
  else (if bit mb 2 then 1 else 0)

/-- The devices an access with this bank control selects: the one it names and, while `MMIDR[4]` forces /CS1 active, the one
behind /CS1 with the same enable pair (`20_memory.md` R64, `21_memory_interface.md` R90). -/
def selectedDevices (m : Mmu) (mb : Byte) : List (Fin 6) :=
  let named := deviceIndex mb
  let forced : Fin 6 := if bit mb 2 then 3 else 2
  if bit m.mmidr 4 && decide (named ≠ forced) then [named, forced] else [named]

/-- Those of them that are there. -/
def presentDevices (cfg : Params) (m : Mmu) (mb : Byte) : List (Fin 6) :=
  (selectedDevices m mb).filter fun i => decide (cfg.devices[i].kind ≠ .absent)

/-- The address the device sees: A19 and A18 inverted as the bank says (`20_memory.md` R64). -/
def deviceAddr (mb : Byte) (pa : Phys) : Phys :=
  pa ^^^ ((if bit mb 5 then 0x80000 else 0) ||| (if bit mb 4 then 0x40000 else 0))

/-- The cell an address of a device names: a device that sees fewer address lines repeats (`20_memory.md` R64). -/
def cellKey (cfg : Params) (i : Fin 6) (a : Phys) : Nat :=
  i.val * 0x100000 + a.toNat % 2 ^ (cfg.devices[i].addrBits) % 0x100000

/-- The cell a read at a physical address reaches through the memory interface unit: of the first device that is there, or
of the one the bank control names. -/
def physCell (cfg : Params) (m : Mmu) (xpcWindow : Bool) (pa : Phys) : Nat :=
  let mb := bankControl m xpcWindow pa
  cellKey cfg ((presentDevices cfg m mb).headD (deviceIndex mb)) (deviceAddr mb pa)

/-- EDMF (`60_exceptions.md` R651). -/
def Dev.edmf (d : Dev) : Bool := bit d.user.edmr 0

/-- `UserMode` (`60_exceptions.md` R652); REV = R3000 has no such mode (R650). -/
def State.userMode (s : State) : Bool :=
  decide (s.cfg.rev = .r3000A) && s.dev.edmf && bit s.cpu.su 0

/-- Whether bit k of a low/high register pair is set, for k below 16 (`21_memory_interface.md` R107, R108). -/
def pairBit (lo hi : Byte) (k : Nat) : Bool := if k < 8 then bit lo k else bit hi (k - 8)

/-- Whether a physical address lies in a protected block or page: `P64 or PA or PB` (`21_memory_interface.md` R110). -/
def writeProtected (m : Mmu) (pa : Phys) : Bool :=
  let blk := (pa.extractLsb' 16 4).toNat
  let pg := (pa.extractLsb' 12 4).toNat
  pairBit m.wplr m.wphr blk
    || (decide (blk = (m.wpsr[0].extractLsb' 0 4).toNat) && pairBit m.wpslr[0] m.wpshr[0] pg)
    || (decide (blk = (m.wpsr[1].extractLsb' 0 4).toNat) && pairBit m.wpslr[1] m.wpshr[1] pg)

/-- Whether write protection is active (`21_memory_interface.md` R110). -/
def State.protectActive (s : State) : Bool :=
  decide (s.cfg.rev = .r3000A) && (bit s.dev.mmu.wpcr 0 || s.userMode)

/-- The next free value (`93_implementation_defined.md` section 1, log 6). -/
def Dev.draw (d : Dev) : Byte × Dev := (Config.freeByte d.free, { d with free := d.free + 1 })

/-- Whether exactly one of the host's devices drives the bus when a physical address is read.  With none, or with two that
the forced /CS1 selects together, the byte is unspecified (`20_memory.md` R64, R76, U2; two drivers: DESIGN CHOICE, log 5). -/
def State.physDriven (s : State) (xpcWindow : Bool) (pa : Phys) : Bool :=
  decide ((presentDevices s.cfg s.dev.mmu (bankControl s.dev.mmu xpcWindow pa)).length = 1)

/-- The byte a read at a physical address gives: the device's, or an unspecified one (`20_memory.md` R64, R76). -/
def State.physByte (s : State) (xpcWindow : Bool) (pa : Phys) : Byte :=
  if s.physDriven xpcWindow pa then cellRead s.mem (physCell s.cfg s.dev.mmu xpcWindow pa) else Config.freeByte s.dev.free

/-- `PhysRead`: a read uses up a free value when nothing drives the bus (`20_memory.md` R64, U2). -/
def State.physRead (s : State) (xpcWindow : Bool) (pa : Phys) : Byte × State :=
  (s.physByte xpcWindow pa,
   if s.physDriven xpcWindow pa then s else { s with dev := { s.dev with free := s.dev.free + 1 } })

/-- Whether a write at a physical address is inhibited by the 3000A's write protection (`21_memory_interface.md` R110). -/
def State.physProtected (s : State) (pa : Phys) : Bool := s.protectActive && writeProtected s.dev.mmu pa

/-- Whether the write pulse of a write at a physical address reaches the selected devices: not protected, and the bank not
write-inhibited (`20_memory.md` R64, R76; `21_memory_interface.md` R110). -/
def State.writePulse (s : State) (xpcWindow : Bool) (pa : Phys) : Bool :=
  !s.physProtected pa && !bit (bankControl s.dev.mmu xpcWindow pa) 3

/-- The cells a write at a physical address reaches, one in each selected device that is there, and whether the write changes
it: the write pulse comes and the device is RAM (`20_memory.md` R64, R76; `21_memory_interface.md` R90). -/
def State.physTargets (s : State) (xpcWindow : Bool) (pa : Phys) : List (Nat × Bool) :=
  let mb := bankControl s.dev.mmu xpcWindow pa
  (presentDevices s.cfg s.dev.mmu mb).map fun i =>
    (cellKey s.cfg i (deviceAddr mb pa), s.writePulse xpcWindow pa && decide (s.cfg.devices[i].kind = .ram))

/-- A byte stored in those of the cells that a write changes. -/
def writeTargets (m : List Host.Cell) (v : Byte) : List (Nat × Bool) → List Host.Cell
  | [] => m
  | (k, true) :: rest => writeTargets (cellWrite m k v) v rest
  | (_, false) :: rest => writeTargets m v rest

/-- The violation flip-flops after a write at a physical address (`21_memory_interface.md` R110). -/
def State.noteWrite (s : State) (pa : Phys) : Dev :=
  { s.dev with viol := { s.dev.viol with writeProtect := s.dev.viol.writeProtect || s.physProtected pa } }

/-- Whether the running instruction still makes its byte writes: no reset has ended it (`70_reset_and_hazards.md` R900). -/
def State.writesGoOn (s : State) : Bool := decide (s.writesLeft ≠ some 0)

/-- How many byte writes are left after one more. -/
def State.oneWriteLess (s : State) : Option Nat := s.writesLeft.map Nat.pred

/-- `PhysWrite`: a protected write is inhibited and requests the interrupt; a write to an inhibited bank, to ROM or to
nothing is lost (`20_memory.md` R64, R76; `21_memory_interface.md` R110).  After a reset has ended the instruction its writes
do not happen (`70_reset_and_hazards.md` R900). -/
def State.physWrite (s : State) (xpcWindow : Bool) (pa : Phys) (v : Byte) : State :=
  { s with
    dev := if s.writesGoOn then s.noteWrite pa else s.dev
    mem := if s.writesGoOn then writeTargets s.mem v (s.physTargets xpcWindow pa) else s.mem
    writesLeft := s.oneWriteLess }

/-- Whether a logical address lies in the XPC window (`20_memory.md` R58, `21_memory_interface.md` R95). -/
def inXpcWindow (m : Mmu) (a : Word) : Bool := decide (segOf m a = .xpc)

/-- The physical address of a data access (`20_memory.md` R60, R61). -/
def State.dataPhys (s : State) (a : Word) : Phys := translate s.cfg.rev s.dev.mmu s.cpu.xpc a .data

/-- The physical address of a fetch (`20_memory.md` R60, R61, R62). -/
def State.fetchPhys (s : State) (a : Word) : Phys := translate s.cfg.rev s.dev.mmu s.cpu.xpc a .fetch

/-- What `MemRead(a, 1)` returns (`00_scope.md` R11, `20_memory.md` R60). -/
def State.peek (s : State) (a : Word) : Byte := s.physByte (inXpcWindow s.dev.mmu a) (s.dataPhys a)

/-- `MemRead(a, 1)` (`00_scope.md` R11). -/
def State.memRead (s : State) (a : Word) : Byte × State := s.physRead (inXpcWindow s.dev.mmu a) (s.dataPhys a)

/-- `MemWrite(a, 1, v)` (`00_scope.md` R11). -/
def State.memWrite (s : State) (a : Word) (v : Byte) : State := s.physWrite (inXpcWindow s.dev.mmu a) (s.dataPhys a) v

/-- The cells a data write at a logical address reaches, and whether it changes them. -/
def State.dataTargets (s : State) (a : Word) : List (Nat × Bool) :=
  s.physTargets (inXpcWindow s.dev.mmu a) (s.dataPhys a)

/-- The cell a data read at a logical address reaches. -/
def State.dataCell (s : State) (a : Word) : Nat :=
  physCell s.cfg s.dev.mmu (inXpcWindow s.dev.mmu a) (s.dataPhys a)

/-- The cell a fetch at a logical address reaches. -/
def State.fetchCell (s : State) (a : Word) : Nat :=
  physCell s.cfg s.dev.mmu (inXpcWindow s.dev.mmu a) (s.fetchPhys a)

/-- The byte `Fetch8()` reads at a logical address, without moving the program counter (`00_scope.md` R11). -/
def State.fetchRead (s : State) (a : Word) : Byte × State := s.physRead (inXpcWindow s.dev.mmu a) (s.fetchPhys a)

/-- The physical address of the k-th byte of an LDP access: `{A[3:0], p + k}`, p + k modulo 2^16 (`20_memory.md` R63). -/
def ldpPhys (a : Byte) (p : Word) : Phys := (a.extractLsb' 0 4) ++ p

end Sys2Proof.Machine
end

