-- ==== Sys2Proof/Machine/Ports.lean ====
section
/-! DEFINITION. Pin levels, the two-stage outputs of Ports D to G, the external interrupt catchers
(`62_ports_io_banks.md` R720 to R730, `60_exceptions.md` R640). -/
namespace Sys2Proof.Machine

/-- The index of a serial port in `Dev.serial`. -/
def SerialId.idx : SerialId → Fin 6
  | .a => 0 | .b => 1 | .c => 2 | .d => 3 | .e => 4 | .f => 5

/-- Whether a port has HDLC and FIFOs (E and F) rather than clocked mode (`64_serial_slave.md` R830). -/
def SerialId.hdlc : SerialId → Bool
  | .e => true | .f => true | _ => false

/-- A serial port. -/
def Dev.ser (d : Dev) (p : SerialId) : SerialPort := d.serial[p.idx]

/-- The devices with one serial port replaced. -/
def Dev.setSer (d : Dev) (p : SerialId) (x : SerialPort) : Dev := { d with serial := d.serial.set p.idx x }

/-- SxCR[3:2] = 10 or 11 on ports A to D: clocked serial (`64_serial_slave.md` R841, R843). -/
def SerialPort.clocked (p : SerialPort) (id : SerialId) : Bool := !id.hdlc && bit p.cr 3

/-- SxCR[3:2] = 10 or 11 on ports E, F: HDLC (`64_serial_slave.md` R842). -/
def SerialPort.inHdlc (p : SerialPort) (id : SerialId) : Bool := id.hdlc && bit p.cr 3

/-- SxCR[3:2] = 11: the internal clock of the clocked and HDLC modes (`64_serial_slave.md` R841 to R843). -/
def SerialPort.internalClock (p : SerialPort) : Bool := bit p.cr 3 && bit p.cr 2

/-- The level of a line that sends ones: 1 with the NRZ code (mark, `93_implementation_defined.md` G9), 0 from the IrDA
encoder, which sends no pulse for a one (`64_serial_slave.md` R846, R859). -/
def SerialPort.markLevel (p : SerialPort) : Bool := !bit p.er 4

/-- Clocked mode: a burst that sends is under way (`64_serial_slave.md` R854). -/
def SerialPort.sending (p : SerialPort) : Bool := p.burst.any (·.sends)

/-- The level of a transmit output.  In clocked mode it is the last bit sent while no burst sends, also with a byte waiting in
the shifter (`64_serial_slave.md` R854); what it is before a first byte is sent, or after one is cut short, is not stated.
In the other modes it is known while the transmitter is idle and its idle line is ones in NRZ (asynchronous mode, and HDLC mode
with SxER[3] = 1 and the encoding 000).  `none` stands for a waveform, or a level unstated or outside the model: a character,
idle Flags, and the other HDLC encodings, whose level carries no information (`64_serial_slave.md` R846, R847, R858, R859,
log 28). -/
def txLevel (d : Dev) (id : SerialId) : Option Bool :=
  let p := d.ser id
  if p.clocked id then (if p.sending then none else p.lastBit)
  else if p.tx = .idle then
    if !bit p.cr 3 then some p.markLevel
    else if bit p.er 3 && decide (p.er.extractLsb' 5 3 = 0) then some p.markLevel
    else none
  else none

/-- The level of a serial clock output: with the internal clock, its inactive level while no burst is under way
(`64_serial_slave.md` R845); `none`, a level outside the model, during one.  What PF1 and PF0 carry with their PFFR and PFDDR
bits set while Serial Port C or D has the external clock (they "must be inputs" then) or is in asynchronous mode is not stated
(`62_ports_io_banks.md` R727): `none`, a free value, in both cases (DESIGN CHOICE, log 28). -/
def clockLevel (d : Dev) (id : SerialId) : Option Bool :=
  let p := d.ser id
  if p.clocked id && p.internalClock && p.burst.isNone then
    some (decide (p.er.extractLsb' 4 2 = 0) || decide (p.er.extractLsb' 4 2 = 3))
  else none

/-- Whether a channel's suppress code lets this iteration out (`63_timers_capture_pwm_qd.md` R793). -/
def suppressActive (code : BitVec 2) (iter : BitVec 3) : Bool :=
  if code = 0 then true
  else if code = 1 then decide (iter = 0)
  else if code = 2 then decide (iter.extractLsb' 0 2 = 0)
  else decide (iter.extractLsb' 0 1 = 0)

/-- The high counts of a quadrant in spread mode (`63_timers_capture_pwm_qd.md` R791). -/
def spreadHigh (n : BitVec 10) (q : Nat) : Nat :=
  let m := (n.extractLsb' 2 8).toNat
  let k := (n.extractLsb' 0 2).toNat
  if q = 0 then m + 1
  else if q = 1 then (if 2 ≤ k then m + 1 else m)
  else if q = 2 then (if 1 ≤ k then m + 1 else m)
  else (if k = 3 then m + 1 else m)

/-- `n_c`, the width of a channel (`63_timers_capture_pwm_qd.md` R791). -/
def pwmWidth (p : Pwm) (c : Fin 4) : BitVec 10 := p.pwm[c] ++ p.pwl[c].extractLsb' 6 2

/-- A PWM output (`63_timers_capture_pwm_qd.md` R791, R793). -/
def pwmOut (rev : Rev) (p : Pwm) (c : Fin 4) : Bool :=
  let wave :=
    if bit p.pwl[c] 0 then decide ((p.count.extractLsb' 0 8).toNat < spreadHigh (pwmWidth p c) (p.count.extractLsb' 8 2).toNat)
    else decide (p.count ≤ pwmWidth p c)
  match rev with
  | .r3000 => wave
  | .r3000A => wave && suppressActive (field2 p.pwl[c] 4) p.iter

/-- The level of the strobe /Ik between external I/O cycles: inactive (`62_ports_io_banks.md` R740, R741). -/
def strobeIdle (rev : Rev) (d : Dev) (k : Fin 8) : Bool :=
  match rev with
  | .r3000 => true
  | .r3000A => !bit d.bus.ib[k] 2

/-- The alternate output signal of a bit of Ports D to G, for a bit that has one (`62_ports_io_banks.md` R729).  PG5, PG4, PG1
and PG0 carry the HDLC clocks of Serial Ports E and F, waveforms outside the model; what they carry while the port is in
asynchronous mode or has the external clock is not stated (R728): `none`, a free value, there too (DESIGN CHOICE, log 28). -/
def altSignal (rev : Rev) (d : Dev) : TPort → Fin 8 → Option Bool
  | .d, 7 => some (pwmOut rev d.pwm 3)
  | .d, 6 => txLevel d .a
  | .d, 5 => some (pwmOut rev d.pwm 2)
  | .d, 4 => txLevel d .b
  | .d, _ => none
  | .e, k => some (strobeIdle rev d k)
  | .f, 7 => some (pwmOut rev d.pwm 3)
  | .f, 6 => some (pwmOut rev d.pwm 2)
  | .f, 5 => some (pwmOut rev d.pwm 1)
  | .f, 4 => some (pwmOut rev d.pwm 0)
  | .f, 1 => clockLevel d .c
  | .f, 0 => clockLevel d .d
  | .f, _ => none
  | .g, 7 => some (pwmOut rev d.pwm 1)
  | .g, 6 => txLevel d .e
  | .g, 3 => some (pwmOut rev d.pwm 0)
  | .g, 2 => txLevel d .f
  | .g, _ => none

/-- One of Ports D to G. -/
def Ports.timed (p : Ports) : TPort → TimedPort
  | .d => p.d | .e => p.e | .f => p.f | .g => p.g

/-- The ports with one of D to G replaced. -/
def Ports.setTimed (p : Ports) (t : TPort) (x : TimedPort) : Ports :=
  match t with
  | .d => { p with d := x } | .e => { p with e := x } | .f => { p with f := x } | .g => { p with g := x }

/-- The host's levels on a port's pins. -/
def Pins.at (p : Pins) : PortId → Byte
  | .a => p.a | .b => p.b | .c => p.c | .d => p.d | .e => p.e | .f => p.f | .g => p.g

/-- The pins with one port's host levels replaced. -/
def Pins.put (p : Pins) (id : PortId) (v : Byte) : Pins :=
  match id with
  | .a => { p with a := v } | .b => { p with b := v } | .c => { p with c := v } | .d => { p with d := v }
  | .e => { p with e := v } | .f => { p with f := v } | .g => { p with g := v }

/-- The port of D to G under its general name. -/
def TPort.port : TPort → PortId
  | .d => .d | .e => .e | .f => .f | .g => .g

/-- PF1 and PF0 are outputs while serial port C, D has its internal clock (`62_ports_io_banks.md` R727, D34). -/
def clockForcesOutput (d : Dev) : TPort → Fin 8 → Bool
  | .f, 1 => (d.ser .c).internalClock
  | .f, 0 => (d.ser .d).internalClock
  | _, _ => false

/-- The slave port, while enabled, takes PE7 over as its chip select input /SCS (`62_ports_io_banks.md` R726,
`64_serial_slave.md` R870, R871). -/
def slaveTakes (d : Dev) : TPort → Fin 8 → Bool
  | .e, 7 => decide (d.slave.mode = 2)
  | _, _ => false

/-- `level(Pxk)` of Ports D to G (`62_ports_io_banks.md` R720, R725, R729); `none` for a waveform outside the model. -/
def timedLevel (rev : Rev) (d : Dev) (t : TPort) (k : Fin 8) : Option Bool :=
  let p := d.ports.timed t
  let host := bit (d.pins.at t.port) k.val
  if (bit p.ddr k.val || clockForcesOutput d t k) && !slaveTakes d t k then
    let src := if bit p.fr k.val then altSignal rev d t k else some (bit p.out k.val)
    match src with
    | some true => if bit p.dcr k.val then some host else some true
    | other => other
  else some host

/-- `level(PAk)` (`62_ports_io_banks.md` R721). -/
def levelA (d : Dev) (k : Fin 8) : Option Bool :=
  if d.slave.mode = 1 then some (bit d.slave.outR[0] k.val) else some (bit d.pins.a k.val)

/-- `level(PBk)` (`62_ports_io_banks.md` R722, R743).  PB6 with the slave port enabled: R722 names it the alternate chip select
/ASCS of the 3000A, `64_serial_slave.md` R871 does not count it among the pins taken over, and no register selects it; here it
stays an ordinary pin and selects nothing (DESIGN CHOICE, log 34). -/
def levelB (d : Dev) (k : Fin 8) : Option Bool :=
  let plain := if bit d.ports.pbddr k.val then some (bit d.ports.pbOut k.val) else some (bit d.pins.b k.val)
  let shared :=
    if d.slave.mode = 3 then some (bit d.bus.auxAddr (k.val - 2))
    else if d.slave.mode = 2 then
      (if k = 7 then some (!bit d.slave.spsr 3) else if k = 6 then plain else some (bit d.pins.b k.val))
    else plain
  match k with
  | 0 => if (d.ser .b).internalClock then clockLevel d .b else plain
  | 1 => if (d.ser .a).internalClock then clockLevel d .a else plain
  | _ => shared

/-- The transmitter behind an even bit of Port C (`62_ports_io_banks.md` R723). -/
def portCTx : Fin 8 → SerialId
  | 6 => .a | 4 => .b | 2 => .c | _ => .d

/-- `level(PCk)`: an odd bit is an input, an even bit echoes what drives its buffer (`62_ports_io_banks.md` R723). -/
def levelC (d : Dev) (k : Fin 8) : Option Bool :=
  if k.val % 2 = 1 then some (bit d.pins.c k.val)
  else if bit d.ports.pcfr k.val then txLevel d (portCTx k)
  else some (bit d.ports.pcOut k.val)

/-- `level(Pxk)` of every port. -/
def pinLevel (rev : Rev) (d : Dev) : PortId → Fin 8 → Option Bool
  | .a, k => levelA d k
  | .b, k => levelB d k
  | .c, k => levelC d k
  | .d, k => timedLevel rev d .d k
  | .e, k => timedLevel rev d .e k
  | .f, k => timedLevel rev d .f k
  | .g, k => timedLevel rev d .g k

/-- A byte from its eight bits. -/
def byteOf (f : Fin 8 → Bool) : Byte :=
  bit1 (f 7) ++ bit1 (f 6) ++ bit1 (f 5) ++ bit1 (f 4) ++ bit1 (f 3) ++ bit1 (f 2) ++ bit1 (f 1) ++ bit1 (f 0)

/-- The bits of a port whose level the model knows. -/
def knownMask (rev : Rev) (d : Dev) (p : PortId) : Byte := byteOf fun k => (pinLevel rev d p k).isSome

/-- The levels of those bits. -/
def knownLevels (rev : Rev) (d : Dev) (p : PortId) : Byte := byteOf fun k => (pinLevel rev d p k).getD false

/-- Reading a port's pins; a bit whose waveform is outside the model reads as a free value (log 28). -/
def readPins (rev : Rev) (d : Dev) (p : PortId) : Byte × Dev :=
  if knownMask rev d p = 0xFF then (knownLevels rev d p, d)
  else (merge (knownMask rev d p) (knownLevels rev d p) (d.draw).1, (d.draw).2)

/-- The level of one pin as a sampling device sees it; free where the waveform is outside the model. -/
def samplePin (rev : Rev) (d : Dev) (p : PortId) (k : Fin 8) : Bool × Dev :=
  match pinLevel rev d p k with
  | some b => (b, d)
  | none => (bit (d.draw).1 0, (d.draw).2)

/-- Whether an edge-select field (10 rising, 01 falling, 11 both) picks this edge (`60_exceptions.md` R640). -/
def edgeSelected (sel : BitVec 2) (old new : Option Bool) : Bool :=
  match old, new with
  | some false, some true => bit sel 1
  | some true, some false => bit sel 0
  | _, _ => false

/-- One external interrupt's catchers after its two pins moved (`60_exceptions.md` R640). -/
def ExtInt.watch (x : ExtInt) (oldA newA oldB newB : Option Bool) : ExtInt :=
  { x with
    catchA := x.catchA || edgeSelected (field2 x.cr 2) oldA newA
    catchB := x.catchB || edgeSelected (field2 x.cr 4) oldB newB }

/-- The external interrupt catchers after the devices changed from `old` to `new`: they watch PE0, PE4, PE1, PE5 whatever
drives them (`60_exceptions.md` R640, `62_ports_io_banks.md` R726). -/
def catchEdges (rev : Rev) (old new : Dev) : Dev :=
  { new with
    int0 := new.int0.watch (timedLevel rev old .e 0) (timedLevel rev new .e 0) (timedLevel rev old .e 4) (timedLevel rev new .e 4)
    int1 := new.int1.watch (timedLevel rev old .e 1) (timedLevel rev new .e 1) (timedLevel rev old .e 5) (timedLevel rev new .e 5) }

/-- Whether a pulse on a pin is an edge the field picks. -/
def pulseSelected (sel : BitVec 2) : Bool := decide (sel ≠ 0)

/-- The catchers after an I/O strobe pulsed PEb (`62_ports_io_banks.md` R741, `60_exceptions.md` R640). -/
def catchStrobe (d : Dev) (b : Fin 8) : Dev :=
  match b with
  | 0 => { d with int0 := { d.int0 with catchA := d.int0.catchA || pulseSelected (field2 d.int0.cr 2) } }
  | 4 => { d with int0 := { d.int0 with catchB := d.int0.catchB || pulseSelected (field2 d.int0.cr 4) } }
  | 1 => { d with int1 := { d.int1 with catchA := d.int1.catchA || pulseSelected (field2 d.int1.cr 2) } }
  | 5 => { d with int1 := { d.int1 with catchB := d.int1.catchB || pulseSelected (field2 d.int1.cr 4) } }
  | _ => d

/-- The transfer of the nibbles whose PxCR field is `code`: preload to output (`62_ports_io_banks.md` R725). -/
def TimedPort.transfer (p : TimedPort) (code : BitVec 2) : TimedPort :=
  let mask : Byte := (if field2 p.cr 4 = code then 0xF0 else 0) ||| (if field2 p.cr 0 = code then 0x0F else 0)
  { p with out := merge mask p.pre p.out }

/-- The transfer on all four ports. -/
def Ports.transferAll (p : Ports) (code : BitVec 2) : Ports :=
  { p with d := p.d.transfer code, e := p.e.transfer code, f := p.f.transfer code, g := p.g.transfer code }

/-- Writing PxDR: the preload register, and at once the nibbles clocked by perclk/2 (`62_ports_io_banks.md` R725, log 29). -/
def TimedPort.writeData (p : TimedPort) (v : Byte) : TimedPort := ({ p with pre := v }).transfer 0

/-- Writing PxBkR: bit k of the preload register (`62_ports_io_banks.md` R725, R730). -/
def TimedPort.writeBit (p : TimedPort) (k : BitVec 3) (v : Byte) : TimedPort :=
  ({ p with pre := setBit p.pre k.toNat (bit v k.toNat) }).transfer 0

end Sys2Proof.Machine
end

