-- ==== Sys2Proof/Machine/Timers.lean ====
section
/-! DEFINITION. What the peripheral clock drives: Timer A, Timer B, input capture, the pulse width modulator, the quadrature
decoder, and the bursts Timer B starts (`63_timers_capture_pwm_qd.md`). -/
namespace Sys2Proof.Machine

/-- Which units of Timer A receive an input pulse, given the main clock pulse (`63_timers_capture_pwm_qd.md` R771). -/
def TimerA.input (t : TimerA) (main : Bool) (i : Fin 10) : Bool :=
  if 1 ≤ i.val ∧ i.val ≤ 6 ∧ bit t.tacr (i.val + 1) then main && decide (t.count[0] = 0) else main

/-- The output pulse of unit A(i+1) (`63_timers_capture_pwm_qd.md` R771). -/
def TimerA.pulse (t : TimerA) (main : Bool) (i : Fin 10) : Bool := t.input main i && decide (t.count[i] = 0)

/-- The units of Timer A after one main clock pulse or none (`63_timers_capture_pwm_qd.md` R771, R772). -/
def TimerA.tick (t : TimerA) (main : Bool) : TimerA :=
  { t with
    count := Vector.ofFn fun i =>
      if t.input main i then (if t.count[i] = 0 then t.reload[i] else t.count[i] - 1) else t.count[i]
    done := t.done ||| byteOf fun k => if h : 1 ≤ k.val then t.pulse main ⟨k.val - 1, by omega⟩ else false }

/-- Whether Timer B counts on this cycle (`63_timers_capture_pwm_qd.md` R783). -/
def TimerB.clocked (t : TimerB) (halfPulse a1 : Bool) : Bool :=
  let sel := t.tbcr.extractLsb' 2 2
  t.run && (if sel = 0 then halfPulse else if sel = 1 then a1 else halfPulse && decide (t.div8 = 7))

/-- Whether match x happens as Timer B counts (`63_timers_capture_pwm_qd.md` R781). -/
def TimerB.matches (t : TimerB) (clock : Bool) (x : Fin 2) : Bool := clock && decide (t.count + 1 = t.cmp[x])

/-- Timer B after one cycle (`63_timers_capture_pwm_qd.md` R781). -/
def TimerB.tick (t : TimerB) (halfPulse a1 : Bool) : TimerB :=
  let clock := t.clocked halfPulse a1
  { t with
    div8 := if halfPulse then t.div8 + 1 else t.div8
    count := if clock then t.count + 1 else t.count
    cmp := Vector.ofFn fun x => if t.matches clock x then t.pre[x] else t.cmp[x]
    stat := Vector.ofFn fun x => t.stat[x] || (t.matches clock x && t.valid[x])
    valid := Vector.ofFn fun x => t.valid[x] && !t.matches clock x }

/-- The pin an input-capture source field selects: its port (`63_timers_capture_pwm_qd.md` R803). -/
def capturePort (f : BitVec 2) : PortId := if f = 0 then .c else if f = 1 then .d else if f = 2 then .f else .g

/-- And its bit: 1, 3, 5 or 7. -/
def captureBit (f : BitVec 2) : Fin 8 := if f = 0 then 1 else if f = 1 then 3 else if f = 2 then 5 else 7

/-- Whether an edge field of ICTxR (01 rising, 10 falling, 11 either) sees its edge (`63_timers_capture_pwm_qd.md` R802). -/
def captureEdge (sel : BitVec 2) (old new : Bool) : Bool := (bit sel 0 && !old && new) || (bit sel 1 && old && !new)

/-- The counter's next value; in the test mode the two bytes count alone (`63_timers_capture_pwm_qd.md` R801, R805). -/
def captureNext (test : BitVec 2) (c : Word) : Word :=
  if test = 3 then word (hiByte c + 1) (loByte c + 1) else c + 1

/-- Whether the channel counts on this pulse (`63_timers_capture_pwm_qd.md` R805). -/
def CaptureChan.runs (c : CaptureChan) (start stop : Bool) : Bool :=
  let mode := field2 c.trig 6
  if mode = 0 then false
  else if mode = 1 then (c.running || start) && !stop
  else if mode = 2 then true
  else c.running && !stop

/-- A channel after one pulse of Timer A8 with its two inputs at these levels (`63_timers_capture_pwm_qd.md` R805). -/
def CaptureChan.tick (c : CaptureChan) (test : BitVec 2) (inStart inStop : Bool) : CaptureChan :=
  let start := captureEdge (field2 c.trig 2) c.lastStart inStart
  let stop := captureEdge (field2 c.trig 0) c.lastStop inStop
  let run := c.runs start stop
  { c with
    latch := if (start && bit c.trig 5) || (stop && bit c.trig 4) then c.count else c.latch
    count := if run then captureNext test c.count else c.count
    running := run
    lastStart := inStart
    lastStop := inStop }

/-- The status bits a pulse sets: Start, Stop and roll-over of channel x (`63_timers_capture_pwm_qd.md` R801, R805). -/
def CaptureChan.events (c : CaptureChan) (test : BitVec 2) (x : Fin 2) (inStart inStop : Bool) : Byte :=
  let start := captureEdge (field2 c.trig 2) c.lastStart inStart
  let stop := captureEdge (field2 c.trig 0) c.lastStop inStop
  let roll := c.runs start stop && decide (captureNext test c.count = 0)
  byteOf fun k =>
    (start && decide (k.val = 5 + 2 * x.val)) || (stop && decide (k.val = 4 + 2 * x.val))
      || (roll && decide (k.val = 2 + x.val))

/-- One input-capture channel on a pulse of Timer A8 (`63_timers_capture_pwm_qd.md` R805). -/
def captureTick (rev : Rev) (d : Dev) (x : Fin 2) : Dev :=
  let c := d.capture.chan[x]
  let r1 := samplePin rev d (capturePort (field2 c.src 6)) (captureBit (field2 c.src 4))
  let r2 := samplePin rev r1.2 (capturePort (field2 c.src 2)) (captureBit (field2 c.src 0))
  { r2.2 with
    capture := { r2.2.capture with
      stat := r2.2.capture.stat ||| c.events d.capture.test x r1.1 r2.1
      chan := r2.2.capture.chan.set x (c.tick d.capture.test r1.1 r2.1) } }

/-- The pulse width modulator on a pulse of Timer A9 (`63_timers_capture_pwm_qd.md` R791, R793). -/
def Pwm.tick (rev : Rev) (p : Pwm) : Pwm :=
  let count := p.count + 1
  let wrap := decide (count = 0)
  let iter := if wrap then p.iter + 1 else p.iter
  let fires := match rev with
    | .r3000 => false
    | .r3000A => wrap && decide (field2 p.pwl[0] 1 ≠ 0) && suppressActive (field2 p.pwl[1] 1) iter
  { p with count := count, iter := iter, req := p.req || fires }

/-- The (I, Q) state after this one in the order that counts up by default: 00, 10, 11, 01
(`63_timers_capture_pwm_qd.md` R814). -/
def quadNext (x : BitVec 2) : BitVec 2 := if x = 0 then 2 else if x = 2 then 3 else if x = 3 then 1 else 0

/-- The input selection of decoder x (0 = decoder 1): QDCR[3:2], QDCR[7:6] (`63_timers_capture_pwm_qd.md` R811). -/
def quadSelect (qdcr : Byte) (x : Fin 2) : BitVec 2 := if x = 0 then field2 qdcr 2 else field2 qdcr 6

/-- The Port F bit of the I input (`63_timers_capture_pwm_qd.md` R811). -/
def quadBitI (sel : BitVec 2) (x : Fin 2) : Fin 8 :=
  if x = 0 then (if sel = 3 then 5 else 1) else (if sel = 3 then 7 else 3)

/-- The Port F bit of the Q input. -/
def quadBitQ (sel : BitVec 2) (x : Fin 2) : Fin 8 :=
  if x = 0 then (if sel = 3 then 4 else 0) else (if sel = 3 then 6 else 2)

/-- The digital filter: an input must hold for two samples (`63_timers_capture_pwm_qd.md` R814). -/
def quadFilter (filt raw now : BitVec 2) : BitVec 2 := merge (~~~(raw ^^^ now)) now filt

/-- 10-bit counters: REV = R3000A with QDCR[5] = 1 (`63_timers_capture_pwm_qd.md` R811, R813). -/
def quadWide (rev : Rev) (qdcr : Byte) : Bool := decide (rev = .r3000A) && bit qdcr 5

/-- The largest count. -/
def quadMax (wide : Bool) : BitVec 10 := if wide then 0x3FF else 0x0FF

/-- A decoder channel with the (I, Q) sample `now`; the flags say whether it rolled over upwards, downwards
(`63_timers_capture_pwm_qd.md` R812 to R814). -/
def QuadChan.tick (c : QuadChan) (dir : QdDirection) (wide : Bool) (now : BitVec 2) : QuadChan × Bool × Bool :=
  let filt := quadFilter c.filt c.raw now
  let fwd := decide (filt = quadNext c.filt)
  let back := decide (c.filt = quadNext filt)
  let up := match dir with | .iLeadsIncrements => fwd | .iLeadsDecrements => back
  let down := match dir with | .iLeadsIncrements => back | .iLeadsDecrements => fwd
  let count := c.count &&& quadMax wide
  let next := if up then (count + 1) &&& quadMax wide else if down then (count - 1) &&& quadMax wide else count
  (⟨next, now, filt⟩, up && decide (count = quadMax wide), down && decide (count = 0))

/-- The (I, Q) levels a decoder selection sees, a level outside the model as a free value
(`63_timers_capture_pwm_qd.md` R811, log 28). -/
def quadSample (rev : Rev) (d : Dev) (sel : BitVec 2) (x : Fin 2) : BitVec 2 × Dev :=
  let ri := samplePin rev d .f (quadBitI sel x)
  let rq := samplePin rev ri.2 .f (quadBitQ sel x)
  (bit1 ri.1 ++ bit1 rq.1, rq.2)

/-- One quadrature decoder channel on a pulse of Timer A10 (`63_timers_capture_pwm_qd.md` R812, R814). -/
def quadTick (cfg : Params) (d : Dev) (x : Fin 2) : Dev :=
  let sel := quadSelect d.quad.qdcr x
  if bit sel 1 then
    let q := quadSample cfg.rev d sel x
    let r := d.quad.chan[x].tick cfg.qdDirection (quadWide cfg.rev d.quad.qdcr) q.1
    let up := r.2.1
    let down := r.2.2
    { q.2 with
      quad := { q.2.quad with
        stat := q.2.quad.stat ||| byteOf fun k =>
          (up && decide (k.val = 3 + 4 * x.val)) || (down && decide (k.val = 2 + 4 * x.val))
        req := q.2.quad.req || up || down
        chan := q.2.quad.chan.set x r.1 } }
  else d

/-- A burst waits for the Timer B match pulse: SxER[7] = 1 and the internal clock (`64_serial_slave.md` R845).  With the
external clock the transmitter of that clock decides, whatever SxER[7] says (DESIGN CHOICE, log 33). -/
def SerialPort.synchronised (p : SerialPort) : Bool := bit p.er 7 && p.internalClock

/-- A burst begins, unless one is under way: the receive code stored before it and the byte in the shifter take part, and what
is commanded later waits for the next one (`64_serial_slave.md` R854).  For a receive code stored during a burst that receives
nothing the spec does not say so (DESIGN CHOICE, log 33). -/
def SerialPort.startBurst (p : SerialPort) : SerialPort :=
  if p.burst.isNone then { p with burst := some ⟨p.recvCode, decide (p.tx ≠ .idle)⟩, recvCode := false, baud := 0 } else p

/-- With the internal clock a burst begins where there is something to receive or to send (`64_serial_slave.md` R854). -/
def SerialPort.ownBurst (p : SerialPort) : SerialPort :=
  if p.recvCode || decide (p.tx ≠ .idle) then p.startBurst else p

/-- A serial port after the two match pulses of Timer B: on the one SxER[6] selects a synchronised burst begins
(`64_serial_slave.md` R845). -/
def SerialPort.onMatch (p : SerialPort) (b1 b2 : Bool) : SerialPort :=
  if p.synchronised && (if bit p.er 6 then b2 else b1) then p.ownBurst else p

/-- The ports with a clocked mode, A to D, after them. -/
def matchSerial (b1 b2 : Bool) (d : Dev) : Dev :=
  [SerialId.a, .b, .c, .d].foldl (fun e id => e.setSer id ((e.ser id).onMatch b1 b2)) d

end Sys2Proof.Machine
end

