-- ==== Sys2Proof/Machine/Serial.lean ====
section
/-! DEFINITION. The serial ports: buffers, status, commands and the host events of a port (`64_serial_slave.md` R832 to R857). -/
namespace Sys2Proof.Machine

/-- How many bytes fit behind the data register: four on E and F, none on A to D (`64_serial_slave.md` R856, D38). -/
def serialDepth (cfg : Params) (id : SerialId) : Nat := if id.hdlc then cfg.fifoDepth else 0

/-- How many completed characters can wait behind the receive data register: the FIFO of E and F, or the one shift
register of A to D (`64_serial_slave.md` R852, R856). -/
def serialRxRoom (cfg : Params) (id : SerialId) : Nat := if id.hdlc then cfg.fifoDepth else 1

/-- 7-bit characters: SxCR[3:2] = 01 (`64_serial_slave.md` R841 to R843). -/
def SerialPort.sevenBit (p : SerialPort) : Bool := !bit p.cr 3 && bit p.cr 2

/-- The receiver input is disabled: SxCR bit 5 (`64_serial_slave.md` R841 to R843). -/
def SerialPort.rxDisabled (p : SerialPort) : Bool := bit p.cr 5

/-- A character with bit 7 dropped in 7-bit mode (`64_serial_slave.md` R841). -/
def SerialPort.mask (p : SerialPort) (v : Byte) : Byte := if p.sevenBit then v &&& 0x7F else v

/-- Whether taking this byte from the buffer requests an interrupt: in HDLC mode not when it is the last of the frame
(`64_serial_slave.md` R837, R851). -/
def SerialPort.takeRequests (p : SerialPort) (id : SerialId) (c : TxChar) : Bool :=
  !(p.inHdlc id && decide (c.kind ≠ .data))

/-- A byte was taken from the transmit buffer: where that requests an interrupt, its cause is 00, "buffer empty"
(`64_serial_slave.md` R837, R851, R853). -/
def SerialPort.noteTaken (p : SerialPort) (id : SerialId) (c : TxChar) : SerialPort :=
  if p.takeRequests id c then { p with txReq := true, txCause := 0 } else p

/-- The shifter takes the next byte, from the FIFO or else the data register (`64_serial_slave.md` R851, R856). -/
def SerialPort.loadShift (p : SerialPort) (id : SerialId) : SerialPort :=
  if p.tx = .idle then
    match p.txFifo with
    | c :: cs => { p with tx := .character c, txFifo := cs, held := false }.noteTaken id c
    | [] =>
      match p.txd with
      | some c => { p with tx := .character c, txd := none, held := false }.noteTaken id c
      | none => p
  else p

/-- The data register moves into the FIFO if there is room (`64_serial_slave.md` R851, R856). -/
def SerialPort.refill (cfg : Params) (p : SerialPort) (id : SerialId) : SerialPort :=
  match p.txd with
  | some c =>
    if p.txFifo.length < serialDepth cfg id then { p with txd := none, txFifo := p.txFifo ++ [c] }.noteTaken id c else p
  | none => p

/-- The byte in the data register goes to the free shifter once a send code is stored (`64_serial_slave.md` R854).  A send
code stored while the register is empty is kept for the next byte written: the spec says only that the register must be
loaded first (DESIGN CHOICE, log 33). -/
def SerialPort.startClocked (p : SerialPort) (id : SerialId) : SerialPort :=
  if p.sendCode && p.txd.isSome && decide (p.tx = .idle) then
    { p.loadShift id with sendCode := false }
  else p

/-- With the internal clock and no synchronisation a burst begins as soon as there is one to begin (`64_serial_slave.md` R845,
R854). -/
def SerialPort.freeBurst (p : SerialPort) : SerialPort := if p.internalClock && !p.synchronised then p.ownBurst else p

/-- A clocked port goes on by itself as far as it can: with the internal clock a tagged byte goes to the free shifter and a burst
begins, but a synchronised one only at its match pulse; with the external clock everything waits for the burst
(`64_serial_slave.md` R845, R854). -/
def SerialPort.pumpClocked (p : SerialPort) (id : SerialId) : SerialPort :=
  if p.internalClock then (p.startClocked id).freeBurst else p

/-- The shifter and the FIFO take what they can (`64_serial_slave.md` R851, R856). -/
def SerialPort.load (cfg : Params) (p : SerialPort) (id : SerialId) : SerialPort := (p.loadShift id).refill cfg id

/-- HDLC: with a byte in the buffer of an idle transmitter the opening Flag is sent, two of them with the IrDA encoder
(`64_serial_slave.md` R857, R859).  The encoder "can only be used" with the internal clock and NRZ (R847): with the external clock
or another encoding nothing is stated, and SxER[4] = 1 gives two opening Flags there too (DESIGN CHOICE, log 40). -/
def SerialPort.openFrame (p : SerialPort) : SerialPort :=
  if p.tx = .idle ∧ (p.txFifo ≠ [] ∨ p.txd.isSome) then { p with tx := .openingFlag (bit p.er 4) } else p

/-- The transmitter goes on by itself as far as it can (`64_serial_slave.md` R851, R854, R856, R857). -/
def SerialPort.pump (cfg : Params) (p : SerialPort) (id : SerialId) : SerialPort :=
  if p.clocked id then p.pumpClocked id
  else if p.inHdlc id then p.openFrame.refill cfg id
  else p.load cfg id

/-- A byte put into the transmit data register (`64_serial_slave.md` R832 to R834, R851).  When it was full, `keepOld` says
which of the two bytes stays (U6).  In HDLC mode a byte written in answer to the end of the CRC, while the closing Flag behind
that CRC is sent, is noted (`64_serial_slave.md` R837); in clocked mode a byte written through SxAR is also a start command. -/
def SerialPort.putTx (cfg : Params) (p : SerialPort) (id : SerialId) (c : TxChar) (keepOld : Bool) : SerialPort :=
  let next := match p.txd with
    | some old => if keepOld then old else c
    | none => c
  let starts := p.clocked id && decide (c.kind = TxKind.address)
  ({ p with txd := some next, txReq := false, sendCode := p.sendCode || starts,
            afterCrc := p.afterCrc || (p.inHdlc id && decide (p.tx = TxPhase.closingFlag) && p.crcEnded) }).pump cfg id

/-- A write to SxDR, SxAR or SxLR (`64_serial_slave.md` R832 to R834). -/
def serialWrite (cfg : Params) (d : Dev) (id : SerialId) (c : TxChar) : Dev :=
  match (d.ser id).txd with
  | none => d.setSer id ((d.ser id).putTx cfg id c false)
  | some _ => (d.draw).2.setSer id ((d.ser id).putTx cfg id c (bit (d.draw).1 0))

/-- The receive data register takes the next waiting character (`64_serial_slave.md` R832, R852). -/
def SerialPort.nextRx (p : SerialPort) : SerialPort :=
  match p.rxWait with
  | c :: cs => { p with rx := c, rxFull := true, rxReq := true, rxWait := cs }
  | [] => { p with rxFull := false, rxReq := false }

/-- A receive register with other status bits. -/
def RxChar.withStatus (c : RxChar) (v : Byte) : RxChar := { c with s6 := bit v 6, s4 := bit v 4, s0 := bit v 0 }

/-- Reading the receive buffer: it is emptied, the overrun bit and the request are cleared, and a waiting character moves
in (`64_serial_slave.md` R832, R852).  While the buffer is empty SxSR bits 6, 4 and 0 are those of `empty`. -/
def SerialPort.takeRx (p : SerialPort) (empty : Byte) : SerialPort :=
  ({ p with rx := p.rx.withStatus empty, overrun := false }).nextRx

/-- Whether a receive code by itself is taken: with the internal clock not during a burst that receives, for the receiver cannot
double-buffer (`64_serial_slave.md` R854). -/
def SerialPort.takesReceive (p : SerialPort) : Bool := !(p.internalClock && p.burst.any (·.receives))

/-- A read of SxDR, SxAR or SxLR; in clocked mode a read of SxAR also stores the receive code (`64_serial_slave.md` R833).  In
HDLC mode SxSR bits 6, 4 and 0 are the status of a byte in the buffer; what they are while it is empty is not stated, so they
are free values then (R837, log 40). -/
def serialRead (d : Dev) (id : SerialId) (startsReceive : Bool) : Byte × Dev :=
  let p := d.ser id
  let starts := startsReceive && p.clocked id
  let f := if p.inHdlc id then d.draw else (0, d)
  let q := p.takeRx f.1
  (p.rx.data, f.2.setSer id (if starts then { q with recvCode := q.recvCode || q.takesReceive }.freeBurst else q))

/-- SxSR[2] of the asynchronous and clocked modes: the shifter is busy, or in clocked mode was and a byte without a send code
is waiting (`64_serial_slave.md` R835, R836). -/
def SerialPort.busy (p : SerialPort) (id : SerialId) : Bool := decide (p.tx ≠ .idle) || (p.clocked id && p.held)

/-- SxSR (`64_serial_slave.md` R835 to R837). -/
def serialStatus (d : Dev) (id : SerialId) : Byte :=
  let p := d.ser id
  if p.inHdlc id then
    bit1 p.rxFull ++ bit1 p.rx.s6 ++ bit1 p.overrun ++ bit1 p.rx.s4 ++ bit1 p.txd.isSome ++ p.txCause ++ bit1 p.rx.s0
  else
    bit1 p.rxFull ++ bit1 (p.rx.s6 && !p.clocked id) ++ bit1 p.overrun ++ 0#1 ++ bit1 p.txd.isSome ++ bit1 (p.busy id) ++ 0#2

/-- A write of any value to SxSR clears the transmit request and nothing else (`64_serial_slave.md` R835, R853). -/
def serialStatusWrite (d : Dev) (id : SerialId) : Dev := d.setSer id { d.ser id with txReq := false }

/-- The transmitter becomes idle unless more is waiting; becoming idle with the data register empty requests an interrupt.  A
clocked transmitter whose data register holds a byte without a send code does not count as idle (`64_serial_slave.md` R835,
R836, R851, R853). -/
def SerialPort.finish (cfg : Params) (p : SerialPort) (id : SerialId) : SerialPort :=
  let q := ({ p with tx := .idle }).pump cfg id
  if q.tx ≠ .idle then q else if q.txd.isSome then { q with held := true } else { q with txReq := true }

/-- An Abort command: at once when the transmitter is idle, else at the next boundary; the FIFO is purged.  The byte in the
transmit data register is dropped with it, and counts as taken, SxSR[3] falling (DESIGN CHOICE, log 40)
(`64_serial_slave.md` R853, R857). -/
def SerialPort.abort (p : SerialPort) : SerialPort :=
  let q := if p.txd.isSome then { p with txReq := true, txCause := 0 } else p
  let r := { q with txFifo := [], txd := none }
  if r.tx = .idle then { r with tx := .abort } else { r with abortPending := true }

/-- A part of the burst under way ends early: with the internal clock the burst ends with its last part (`64_serial_slave.md`
R845). -/
def SerialPort.leaveBurst (p : SerialPort) (rx tx : Bool) : SerialPort :=
  match p.burst with
  | some b =>
    let c : Burst := ⟨b.receives && !rx, b.sends && !tx⟩
    if p.internalClock && !c.receives && !c.sends then { p with burst := none, baud := 0 } else { p with burst := some c }
  | none => p

/-- The bits of SxCR that choose the mode and the receiver input: bits 5:2 on A and B; on the others bit 4 is ignored
(`64_serial_slave.md` R841 to R843). -/
def SerialId.inputMask (id : SerialId) : BitVec 6 := if id = .a ∨ id = .b then 0x3C else 0x2C

/-- A write to SxCR: the mode, input and priority are stored and the command bits obeyed, and a byte that waits for an idle
transmitter goes out (`64_serial_slave.md` R840 to R843, R851, R854, R857).  A new mode ends the burst under way, and a new mode
or receiver input ends the character that is arriving, so that an overrun costs no later one; a send or receive code that waits
survives a change of mode and back.  Code 11 is one command: its receive code waits with its byte, also during a burst that
receives (DESIGN CHOICE, log 33).  A Flag Search and an Abort that waits survive a change of mode and back too, of which the
spec says nothing (R857; DESIGN CHOICE, log 40).  A sending burst that a new mode cuts short, and one to or from clocked mode,
leave no last bit on the output (R854, log 28). -/
def SerialPort.writeControl (cfg : Params) (p : SerialPort) (id : SerialId) (v : Byte) : SerialPort :=
  let stays := decide (p.cr.extractLsb' 2 2 = v.extractLsb' 2 2)
  let q := { p with
    cr := v.extractLsb' 0 6
    rxLost := p.rxLost && decide (p.cr &&& id.inputMask = v.extractLsb' 0 6 &&& id.inputMask)
    burst := if stays then p.burst else none
    baud := if stays then p.baud else 0
    lastBit := if stays || (bit p.cr 3 && bit v 3 && !p.sending) then p.lastBit else none }
  let cmd := field2 v 6
  let r :=
    if q.clocked id then
      { q with
        recvCode := q.recvCode || decide (cmd = 3) || (decide (cmd = 1) && q.takesReceive)
        sendCode := q.sendCode || bit cmd 1 }
    else if q.inHdlc id then
      (if cmd = 1 then { q with flagSearch := true } else if cmd = 3 then q.abort else q)
    else q
  r.pump cfg id

/-- A write to SxCR.  Where it selects HDLC mode on an empty receive buffer, SxSR bits 6, 4 and 0 are free values from then on
(`64_serial_slave.md` R837, log 40). -/
def serialControl (cfg : Params) (d : Dev) (id : SerialId) (v : Byte) : Dev :=
  let p := d.ser id
  let q := p.writeControl cfg id v
  if q.inHdlc id && !p.inHdlc id && !q.rxFull then (d.draw).2.setSer id { q with rx := q.rx.withStatus (d.draw).1 }
  else d.setSer id q

/-- SxER[1] = 1 in clocked mode: the current transmission ends, the buffer is left alone, and the transmitter goes on as
after any byte; which bit of a byte cut short was the last one sent is outside the model (`64_serial_slave.md` R836, R845,
R854, log 28). -/
def SerialPort.terminate (cfg : Params) (p : SerialPort) (id : SerialId) : SerialPort :=
  if p.tx = .idle then p
  else ({ p with lastBit := if p.sending then none else p.lastBit }.leaveBurst false true).finish cfg id

/-- A write to SxER: in clocked mode bits 1 and 0 also end a transmission, a reception (`64_serial_slave.md` R844, R845,
R847).  Whether the end of the current reception also drops a receive code that waits for its burst is not stated: it does, while
a waiting send code is kept (DESIGN CHOICE, log 33). -/
def SerialPort.writeExtended (cfg : Params) (p : SerialPort) (id : SerialId) (v : Byte) : SerialPort :=
  let q := { p with er := v }
  if q.clocked id then
    let r := if bit v 0 then { q with recvCode := false }.leaveBurst true false else q
    (if bit v 1 then r.terminate cfg id else r).pump cfg id
  else q

/-- Whether SxER bits 7:5 hold a code the HDLC encodings do not list (`64_serial_slave.md` R847). -/
def hdlcEncodingReserved (er : Byte) : Bool :=
  let c := (er.extractLsb' 5 3).toNat
  decide (c = 1) || decide (c = 3) || decide (c = 5)

/-- A completed character reaches the port.  When there is no room the overrun bit is set and `keepOld` says which of the
last waiting character and the new one is kept (`64_serial_slave.md` R852, R856, U5). -/
def SerialPort.deliver (cfg : Params) (p : SerialPort) (id : SerialId) (c : RxChar) (keepOld : Bool) : SerialPort :=
  if !p.rxFull then { p with rx := c, rxFull := true, rxReq := true }
  else if p.rxWait.length < serialRxRoom cfg id then { p with rxWait := p.rxWait ++ [c] }
  else { p with overrun := true, rxWait := if keepOld then p.rxWait else p.rxWait.dropLast ++ [c] }

/-- A completed character reaches a port, with a free value where one must be lost. -/
def serialDeliver (cfg : Params) (d : Dev) (id : SerialId) (c : RxChar) : Dev :=
  if (d.ser id).rxFull && decide (serialRxRoom cfg id ≤ (d.ser id).rxWait.length) then
    (d.draw).2.setSer id ((d.ser id).deliver cfg id c (bit (d.draw).1 0))
  else d.setSer id ((d.ser id).deliver cfg id c true)

/-- An asynchronous character is complete: it is lost where an overrun at its start bit said so (`64_serial_slave.md` R852). -/
def serialComplete (cfg : Params) (d : Dev) (id : SerialId) (c : RxChar) : Dev :=
  if (d.ser id).rxLost then d.setSer id { d.ser id with rxLost := false } else serialDeliver cfg d id c

/-- Event: an asynchronous character arrived (`64_serial_slave.md` R852). -/
def serialCharEvent (cfg : Params) (d : Dev) (id : SerialId) (v : Byte) (ninth : Bool) : Dev :=
  let p := d.ser id
  if p.rxDisabled || bit p.cr 3 then d else serialComplete cfg d id ⟨p.mask v, ninth, false, false⟩

/-- An overrun found at a start bit: the waiting character is lost, or, with `keepOld`, the one now arriving
(`64_serial_slave.md` R852, U5). -/
def SerialPort.overrunAtStart (p : SerialPort) (keepOld : Bool) : SerialPort :=
  { p with overrun := true, rxLost := keepOld, rxWait := if keepOld then p.rxWait else [] }

/-- Event: a start bit is detected: on A to D an overrun when the data register and the shift register are full, with a free
value for the character that is lost; E and F overrun only as a character completes (`64_serial_slave.md` R835, R852, R856). -/
def serialStartEvent (cfg : Params) (d : Dev) (id : SerialId) : Dev :=
  let p := d.ser id
  if p.rxDisabled || bit p.cr 3 || id.hdlc then d
  else if p.rxFull && decide (serialRxRoom cfg id ≤ p.rxWait.length) then
    (d.draw).2.setSer id (p.overrunAtStart (bit (d.draw).1 0))
  else d.setSer id { p with rxLost := false }

/-- Event: a break ends: with fast termination a dummy character, of no stated value, is written to the buffer
(`64_serial_slave.md` R844, R852). -/
def serialBreakEvent (cfg : Params) (d : Dev) (id : SerialId) : Dev :=
  let p := d.ser id
  if p.rxDisabled || bit p.cr 3 || !bit p.er 3 then d
  else
    let r := d.draw
    serialComplete cfg (r.2.draw).2 id ⟨p.mask r.1, bit (r.2.draw).1 0, false, false⟩

/-- The record of what left a transmitter. -/
def Dev.show (d : Dev) (o : HostOut) : Dev := { d with outLog := o :: d.outLog }

/-- HDLC: the transmitter at a byte boundary: a pending Abort, else what follows (`64_serial_slave.md` R857). -/
def SerialPort.orAbort (p next : SerialPort) : SerialPort :=
  if p.abortPending then { p with tx := .abort, abortPending := false } else next

/-- HDLC: what follows a byte (`64_serial_slave.md` R857): a pending Abort; the CRC after a byte written through SxAR; the
closing Flag after one written through SxLR; the next byte; on underrun an Abort or a Flag (SxER[2]).  Whether the Flag of an
underrun raises the interrupt of a closing Flag is not stated: it does (DESIGN CHOICE, log 40). -/
def SerialPort.afterByte (cfg : Params) (p : SerialPort) (id : SerialId) (c : TxChar) : SerialPort :=
  p.orAbort <|
    match c.kind with
    | .address => { p with tx := .crc false }
    | .longStop => { p with tx := .closingFlag }
    | .data =>
      let q := ({ p with tx := .idle }).load cfg id
      if q.tx = .idle then { q with tx := if bit p.er 2 then .abort else .closingFlag } else q

/-- An interrupt at the end of the CRC (01), an Abort (10) or a closing Flag (11) (`64_serial_slave.md` R837). -/
def SerialPort.noteEnd (p : SerialPort) (cause : BitVec 2) : SerialPort := { p with txReq := true, txCause := cause }

/-- HDLC: the first byte of a frame goes out right behind the closing Flag of the one before, the one Flag between them; the
IrDA encoder, which always sends two opening Flags, sends one more (`64_serial_slave.md` R837, R859; the latter is DESIGN CHOICE,
log 40). -/
def SerialPort.shareFlag (cfg : Params) (p : SerialPort) (id : SerialId) : SerialPort :=
  if bit p.er 4 then { p with tx := .openingFlag false } else ({ p with tx := .idle }).load cfg id

/-- HDLC: what follows the end of a CRC byte, an Abort or a Flag, with its interrupt.  A closing Flag raises none when a
byte was written in answer to the CRC's interrupt, and is then the only Flag between the frames (`64_serial_slave.md` R837,
R857). -/
def SerialPort.afterMark (cfg : Params) (p : SerialPort) (id : SerialId) : SerialPort :=
  match p.tx with
  | .crc false => p.orAbort { p with tx := .crc true }
  | .crc true => (p.orAbort { p with tx := .closingFlag, crcEnded := true }).noteEnd 1
  | .abort => (p.orAbort (({ p with tx := .idle }).pump cfg id)).noteEnd 2
  | .closingFlag =>
    let q := { p with afterCrc := false, crcEnded := false }
    if p.afterCrc then q.orAbort (q.shareFlag cfg id) else (q.orAbort (({ q with tx := .idle }).pump cfg id)).noteEnd 3
  | .openingFlag again =>
    p.orAbort (if again then { p with tx := .openingFlag false } else ({ p with tx := .idle }).load cfg id)
  | _ => p

/-- The transmitter has sent its character, byte, Flag or Abort, in asynchronous or HDLC mode (`64_serial_slave.md` R851, R857). -/
def serialUnitEnd (cfg : Params) (d : Dev) (id : SerialId) : Dev :=
  let p := d.ser id
  match p.tx with
  | .idle => d
  | .character c =>
    if p.inHdlc id then (d.setSer id (p.afterByte cfg id c)).show (.serialOut id c)
    else (d.setSer id (p.finish cfg id)).show (.serialOut id ⟨p.mask c.data, c.kind⟩)
  | ph => (d.setSer id (p.afterMark cfg id)).show (.serialMark id ph)

/-- Event: the external clock has brought an HDLC transmitter to the end of what it was sending; with the baud clock of Timer A a
unit ends by itself (`64_serial_slave.md` R850, R857). -/
def serialTxDoneEvent (cfg : Params) (d : Dev) (id : SerialId) : Dev :=
  if (d.ser id).inHdlc id && !(d.ser id).internalClock then serialUnitEnd cfg d id else d

/-- The first clock of a burst: with the external clock a byte tagged with a send code goes to the free shifter, and the burst
begins (`64_serial_slave.md` R854).  With the internal clock the port begins its bursts itself. -/
def SerialPort.burstStart (p : SerialPort) (id : SerialId) : SerialPort :=
  if p.clocked id && !p.internalClock && p.burst.isNone then (p.startClocked id).startBurst else p

/-- Event: the first clock of a burst on a port in clocked mode (`64_serial_slave.md` R854). -/
def serialBurstStartEvent (d : Dev) (id : SerialId) : Dev := d.setSer id ((d.ser id).burstStart id)

/-- A bit is clocked into a receiver that takes part in the burst, the LSB first; while its input is disabled it sees the idle
level, a one (`64_serial_slave.md` R846, R854). -/
def SerialPort.shiftIn (p : SerialPort) (level : Bool) : SerialPort :=
  if p.burst.any (·.receives) then { p with rxShift := bit1 (p.rxDisabled || level) ++ p.rxShift.extractLsb' 1 7 } else p

/-- The receiver's half of a burst's end: the byte is delivered (`64_serial_slave.md` R854). -/
def serialBurstRx (cfg : Params) (d : Dev) (id : SerialId) (receives : Bool) (v : Byte) : Dev :=
  if receives then serialDeliver cfg d id ⟨v, false, false, false⟩ else d

/-- The transmitter's half of a burst's end: the byte in the shifter has left, its bit 7 last, which the output holds until the
next byte is sent, and the port goes on (`64_serial_slave.md` R854). -/
def serialBurstTx (cfg : Params) (d : Dev) (id : SerialId) (sends : Bool) : Dev :=
  match sends, (d.ser id).tx with
  | true, .character c => (d.setSer id ({ d.ser id with lastBit := some c.data.msb }.finish cfg id)).show (.serialOut id c)
  | _, _ => d.setSer id ((d.ser id).pump cfg id)

/-- The byte of a burst is ready before the burst's last edge: the receiver's half ends, and the clock goes on
(`64_serial_slave.md` R854). -/
def serialBurstReady (cfg : Params) (d : Dev) (id : SerialId) : Dev :=
  let p := d.ser id
  match p.burst with
  | some b => serialBurstRx cfg (d.setSer id { p with burst := some { b with receives := false } }) id b.receives p.rxShift
  | none => d

/-- The end of the burst under way, with the byte clocked in (`64_serial_slave.md` R854). -/
def serialBurstEnd (cfg : Params) (d : Dev) (id : SerialId) (v : Byte) : Dev :=
  let p := d.ser id
  match p.burst with
  | some b => serialBurstTx cfg (serialBurstRx cfg (d.setSer id { p with burst := none, baud := 0 }) id b.receives v) id b.sends
  | none => d

/-- Event: one external clock on a port in clocked mode; the first begins the burst and the eighth ends it (`64_serial_slave.md`
R854, log 45). -/
def serialClockEvent (cfg : Params) (d : Dev) (id : SerialId) (level : Bool) : Dev :=
  if (d.ser id).clocked id && !(d.ser id).internalClock then
    let p := (d.ser id).burstStart id
    let q : SerialPort := { p.shiftIn level with baud := p.baud + 2 }
    if q.baud < 16 then d.setSer id q else serialBurstEnd cfg (d.setSer id q) id q.rxShift
  else d

/-- Event: one burst of eight external clocks on a port in clocked mode has ended, the clocks not given one by one with the bits
of this byte; it has also begun, if that was not said before (`64_serial_slave.md` R845, R854).  The polarity codes 01 and 11 of SxER[5:4] are for the internal clock only (R845); what they do
with the external clock is not stated, and the port then runs its bursts as with 00 and 10 (DESIGN CHOICE, log 33). -/
def serialBurstEvent (cfg : Params) (d : Dev) (id : SerialId) (v : Byte) : Dev :=
  if (d.ser id).clocked id && !(d.ser id).internalClock then
    let p := (d.ser id).burstStart id
    let k := p.baud / 2
    let q := (List.range (8 - k)).foldl (fun x j => x.shiftIn (bit v (k + j))) p
    serialBurstEnd cfg (d.setSer id q) id q.rxShift
  else d

/-- Event: HDLC: a byte arrived with its status (`64_serial_slave.md` R837, R857). -/
def hdlcByteEvent (cfg : Params) (d : Dev) (id : SerialId) (v : Byte) (s6 s4 short : Bool) : Dev :=
  let p := d.ser id
  if !p.inHdlc id || p.rxDisabled || p.flagSearch then d else serialDeliver cfg d id ⟨v, s6, s4, short⟩

/-- Event: HDLC: a Flag ends the search (`64_serial_slave.md` R857). -/
def hdlcFlagEvent (d : Dev) (id : SerialId) : Dev :=
  let p := d.ser id
  if p.rxDisabled then d else d.setSer id { p with flagSearch := false }

/-- The port's interrupt request: the receive flip-flop, in clocked and HDLC mode the level of SxSR[7], or the transmit
flip-flop (`64_serial_slave.md` R853). -/
def serialRequest (d : Dev) (id : SerialId) : Bool :=
  let p := d.ser id
  (if bit p.cr 3 then p.rxFull else p.rxReq) || p.txReq

end Sys2Proof.Machine
end

