-- ==== Sys2Proof/Machine/Clock.lean ====
section
/-! DEFINITION. One cycle of the peripheral clock: the timers, the port transfers, and what the outputs of Timer A drive, the
baud clocks of the serial ports among them (`63_timers_capture_pwm_qd.md` R777, `64_serial_slave.md` R850). -/
namespace Sys2Proof.Machine

/-- The unit of Timer A, counted from A1 = 0, whose output is a port's baud clock (`63_timers_capture_pwm_qd.md` R777). -/
def SerialId.timer : SerialId → Fin 10
  | .a => 3 | .b => 4 | .c => 5 | .d => 6 | .e => 1 | .f => 2

/-- The pin of a port's receive input (`64_serial_slave.md` R841 to R843). -/
def SerialPort.rxPin (p : SerialPort) : SerialId → PortId × Fin 8
  | .a => (if bit p.cr 4 then .d else .c, 7)
  | .b => (if bit p.cr 4 then .d else .c, 5)
  | .c => (.c, 3)
  | .d => (.c, 1)
  | .e => (.g, 7)
  | .f => (.g, 3)

/-- The bit times of an asynchronous character: start, 7 or 8 data bits, a ninth bit if written through SxAR or SxLR, stop
(`64_serial_slave.md` R851). -/
def SerialPort.charBits (p : SerialPort) (c : TxChar) : Nat :=
  (if p.sevenBit then 9 else 10) + (if c.kind = .data then 0 else 1)

/-- The baud clock pulses a unit takes: 16 or, with SxER[2] = 1, 8 a bit in asynchronous mode, 16 a bit in HDLC mode, where a
unit has eight bits and its stuffed zeros (`64_serial_slave.md` R844, R850, R851, R857). -/
def SerialPort.unitPulses (p : SerialPort) (id : SerialId) : Nat :=
  match p.tx with
  | .character c => if p.inHdlc id then 128 else p.charBits c * (if bit p.er 2 then 8 else 16)
  | _ => 128

/-- Zeros can be stuffed into this unit: a byte or a CRC byte of an HDLC frame (`64_serial_slave.md` R857). -/
def SerialPort.stuffable (p : SerialPort) (id : SerialId) : Bool :=
  p.inHdlc id && match p.tx with | .character _ => true | .crc _ => true | _ => false

/-- A pulse of the baud clock while a unit is sent.  How many zeros, at most two, are stuffed into eight bits of HDLC is a
free value, for line coding is outside the model (log 40). -/
def unitPulse (cfg : Params) (d : Dev) (id : SerialId) : Dev :=
  let p := d.ser id
  let n := p.baud + 1
  let extra := n - p.unitPulses id
  let on := d.setSer id { p with baud := n }
  let ended := fun e : Dev => serialUnitEnd cfg (e.setSer id { p with baud := 0 }) id
  if n < p.unitPulses id then on
  else if p.stuffable id && decide (extra < 32) then
    if extra % 16 ≠ 0 then on
    else if bit (d.draw).1 0 then (d.draw).2.setSer id { p with baud := n } else ended (d.draw).2
  else ended d

/-- A pulse of the baud clock during a burst: two pulses a serial clock, one for each edge, the receiver sampling on the second
edge, or on the first with SxER[4] = 1; the LSB comes first, and a disabled input samples nothing.  The byte is ready on the
rising edge of the last clock: with SxER[5:4] = 01 its first edge, the fifteenth pulse, else its second.  With SxER[5:4] = 10 the
last bit comes only on the falling edge, the second, after that rising edge, and the byte is ready with it (DESIGN CHOICE)
(`64_serial_slave.md` R845, R846, R850, R854, log 45). -/
def burstPulse (cfg : Params) (d : Dev) (id : SerialId) : Dev :=
  let p := d.ser id
  let n := p.baud + 1
  let samples := (p.burst.any (·.receives)) && decide (n % 2 = if bit p.er 4 then 1 else 0)
  let r := if samples && !p.rxDisabled then samplePin cfg.rev d (p.rxPin id).1 (p.rxPin id).2 else (true, d)
  let q : SerialPort := { (if samples then p.shiftIn r.1 else p) with baud := n }
  let e := r.2.setSer id q
  if n < 15 then e
  else if n = 15 then (if p.er.extractLsb' 4 2 = 1 then serialBurstReady cfg e id else e)
  else serialBurstEnd cfg e id q.rxShift

/-- A pulse of a port's baud clock: what it sends by the internal clock goes on (`63_timers_capture_pwm_qd.md` R777,
`64_serial_slave.md` R850). -/
def serialPulse (cfg : Params) (d : Dev) (id : SerialId) : Dev :=
  let p := d.ser id
  if p.clocked id then (if p.internalClock && p.burst.isSome then burstPulse cfg d id else d)
  else if p.tx = .idle then d
  else if p.inHdlc id && !p.internalClock then d
  else unitPulse cfg d id

/-- One cycle of the peripheral clock (`63_timers_capture_pwm_qd.md`; the order within a cycle is log 30). -/
def perclkTick (cfg : Params) (d : Dev) : Dev :=
  let halfPulse := d.half
  let main := d.timerA.run && (if d.timerA.tapr0 then halfPulse else true)
  let pulse := d.timerA.pulse main
  let a1 := pulse 0
  let clockB := d.timerB.clocked halfPulse a1
  let b1 := d.timerB.matches clockB 0
  let b2 := d.timerB.matches clockB 1
  let ports0 := if halfPulse then d.ports.transferAll 0 else d.ports
  let ports1 := if a1 then ports0.transferAll 1 else ports0
  let ports2 := if b1 then ports1.transferAll 2 else ports1
  let ports3 := if b2 then ports2.transferAll 3 else ports2
  let d1 := { d with
    half := !d.half
    timerA := d.timerA.tick main
    timerB := d.timerB.tick halfPulse a1
    ports := ports3 }
  let e0 := [SerialId.a, .b, .c, .d, .e, .f].foldl (fun e id => if pulse id.timer then serialPulse cfg e id else e) d1
  let e1 := matchSerial b1 b2 e0
  let d2 := if pulse 7 then captureTick cfg.rev (captureTick cfg.rev e1 0) 1 else e1
  let d3 := if pulse 8 then { d2 with pwm := Pwm.tick cfg.rev d2.pwm } else d2
  let d4 := if pulse 9 then quadTick cfg (quadTick cfg d3 0) 1 else d3
  catchEdges cfg.rev d d4

/-- `n` cycles of the peripheral clock. -/
def perclkTicks (cfg : Params) : Nat → Dev → Dev
  | 0, d => d
  | n + 1, d => perclkTicks cfg n (perclkTick cfg d)

end Sys2Proof.Machine
end

