-- ==== Sys2Proof/Machine/SystemIo.lean ====
section
/-! DEFINITION. System management (GCSR, real-time clock, watchdogs, periodic interrupt: `61_system_management.md`), the
slave port (`64_serial_slave.md` R870 to R875), and one cycle of the 32.768 kHz oscillator. -/
namespace Sys2Proof.Machine

/-- A write to GCSR (`61_system_management.md` R672). -/
def SysCtl.writeGcsr (s : SysCtl) (v : Byte) : SysCtl :=
  { s with clockSel := v.extractLsb' 2 3, periodicPrio := field2 v 0, periodicReq := s.periodicReq || bit v 5 }

/-- What a read of GCSR does: bits 7:6 and the periodic request are cleared (`61_system_management.md` R672). -/
def SysCtl.afterRead (s : SysCtl) : SysCtl := { s with cause := 0, periodicReq := false }

/-- `GCSR[4:2]` = 10x: the clocks come from the 32 kHz oscillator (`61_system_management.md` R673). -/
def SysCtl.sleepy (s : SysCtl) : Bool := decide (s.clockSel.extractLsb' 1 2 = 2)

/-- Byte k of a 48-bit value. -/
def byte48 (x : BitVec 48) (k : Nat) : Byte := x.extractLsb' (8 * k) 8

/-- A 48-bit value from its six bytes. -/
def bytes48 (f : Nat → Byte) : BitVec 48 := f 5 ++ f 4 ++ f 3 ++ f 2 ++ f 1 ++ f 0

/-- The byte-increment function: each byte under the mask plus one, without carry between bytes
(`61_system_management.md` R681). -/
def rtcIncrement (count : BitVec 48) (mask : BitVec 6) : BitVec 48 :=
  bytes48 fun k => if bit mask k then byte48 count k + 1 else byte48 count k

/-- A write to RTCCR (`61_system_management.md` R681).  00 and 40 act in every state; 40 leaves the byte-increment function with
the rest, and increments nothing. -/
def Rtc.command (r : Rtc) (v : Byte) : Rtc :=
  if v = 0x00 then { r with mode := .idle }
  else if v = 0x40 then { r with mode := .armed }
  else
    match r.mode with
    | .byteIncrement => if field2 v 6 = 1 then { r with count := rtcIncrement r.count (v.extractLsb' 0 6) } else r
    | .armed =>
      if v = 0x80 then { r with count := 0, mode := .idle }
      else if v = 0xC0 then { r with count := 0, mode := .byteIncrement }
      else r
    | .idle => r

/-- The primary watchdog's period a WDTCR code selects (`61_system_management.md` R682). -/
def watchdogPeriod (v : Byte) : Option (BitVec 17) :=
  if v = 0x5A then some 0x10000 else if v = 0x57 then some 0x8000
  else if v = 0x59 then some 0x4000 else if v = 0x53 then some 0x2000 else none

/-- A write to WDTCR (`61_system_management.md` R682, R684). -/
def Watchdog.control (rev : Rev) (w : Watchdog) (v : Byte) : Watchdog :=
  match watchdogPeriod v with
  | some p => { w with count := 0, period := p }
  | none =>
    if v = 0x5F ∧ rev = .r3000A then { w with swdOn := true, swdCount := w.swdtr, swdReq := false } else w

/-- The watchdog runs from the peripheral clock: WDTTR holds 51, 52 or 53 (`61_system_management.md` R683). -/
def Watchdog.testing (w : Watchdog) : Bool := decide (w.test = 0x51) || decide (w.test = 0x52) || decide (w.test = 0x53)

/-- A write to WDTTR (`61_system_management.md` R683).  What the count does while the watchdog is disabled or clocked for a
test, and from where it goes on afterwards, is not stated: here it is held (DESIGN CHOICE, log 36). -/
def Watchdog.writeTest (w : Watchdog) (v : Byte) : Watchdog :=
  { w with disabled := decide (v = 0x54) && w.testing, test := v }

/-- How a byte written to SWDTR advances the disable sequence; the second answer says it completed
(`61_system_management.md` R684). -/
def SwdSeq.next (q : SwdSeq) (v : Byte) : SwdSeq × Bool :=
  match q with
  | .saw5A => if v = 0x52 then (.saw5A52, false) else if v = 0x5A then (.saw5A, false) else (.none, false)
  | .saw5A52 => if v = 0x44 then (.none, true) else if v = 0x5A then (.saw5A, false) else (.none, false)
  | .none => if v = 0x5A then (.saw5A, false) else (.none, false)

/-- A write to SWDTR: the time constant, and the disable sequence (`61_system_management.md` R684). -/
def Watchdog.writeSwdtr (w : Watchdog) (v : Byte) : Watchdog :=
  let r := w.swdSeq.next v
  { w with swdtr := v, swdSeq := r.1, swdOn := w.swdOn && !r.2 }

/-- The secondary watchdog on one 32 kHz cycle (`61_system_management.md` R684). -/
def Watchdog.tickSecondary (w : Watchdog) : Watchdog :=
  if w.swdOn then
    (if w.swdCount = 0 then { w with swdReq := true, swdCount := w.swdtr } else { w with swdCount := w.swdCount - 1 })
  else w

/-- Whether the primary watchdog counts 32 kHz cycles now; while it does not, its count is held (`61_system_management.md`
R682, R683; holding it is a DESIGN CHOICE, log 36). -/
def Watchdog.counts (w : Watchdog) : Bool := !w.disabled && !w.testing

/-- Whether the primary watchdog times out on this 32 kHz cycle (`61_system_management.md` R682). -/
def Watchdog.expires (w : Watchdog) : Bool := w.counts && decide (w.period ≤ w.count + 1)

/-- Both watchdogs after one 32 kHz cycle that does not time out. -/
def Watchdog.tick (w : Watchdog) : Watchdog :=
  let w1 := if w.counts then { w with count := w.count + 1 } else w
  w1.tickSecondary

/-- The periodic timebase on one 32 kHz cycle: a request every 16 cycles, none in sleepy mode
(`61_system_management.md` R673, R685).  Whether a tick of sleepy mode is kept for the wake-up is not stated: it is lost, while
a request made before, or by GCSR[5], is kept and only masked (DESIGN CHOICE, log 43). -/
def SysCtl.tickPeriodic (s : SysCtl) : SysCtl :=
  { s with tick := s.tick + 1, periodicReq := s.periodicReq || (decide (s.tick = 15) && !s.sleepy) }

/-- The devices after one 32 kHz cycle, the watchdog's time-out apart (`61_system_management.md` R680 to R685). -/
def clk32Tick (d : Dev) : Dev :=
  { d with
    rtc := { d.rtc with count := d.rtc.count + 1 }
    sys := d.sys.tickPeriodic
    wdt := d.wdt.tick }

/-- A slave write to SPDnR (`64_serial_slave.md` R873, R875). -/
def SlavePort.writeOut (p : SlavePort) (n : Fin 3) (v : Byte) : SlavePort :=
  { p with
    outR := p.outR.set n v
    spsr := p.spsr ||| (if n = 0 then 0x09 else if n = 1 then 0x02 else 0x04)
    req := false }

/-- A slave read of SPDnR (`64_serial_slave.md` R873, R875). -/
def SlavePort.readIn (p : SlavePort) (n : Fin 3) : Byte × SlavePort :=
  (p.inR[n], { p with spsr := setBit p.spsr (4 + n.val) false, req := false })

/-- A slave write to SPSR (`64_serial_slave.md` R874, R875). -/
def SlavePort.writeStatus (p : SlavePort) : SlavePort := { p with spsr := setBit p.spsr 7 false, req := false }

/-- A write to PADR: the Port A output register, which with the slave port enabled is SPD0R with its side effects
(`62_ports_io_banks.md` R721). -/
def SlavePort.writePadr (p : SlavePort) (v : Byte) : SlavePort :=
  if p.mode = 2 then p.writeOut 0 v else { p with outR := p.outR.set 0 v }

/-- A master write to external address a (`64_serial_slave.md` R872, R874, R875). -/
def SlavePort.masterWrite (p : SlavePort) (a : BitVec 2) (v : Byte) : SlavePort :=
  if a = 0 then { p with inR := p.inR.set 0 v, spsr := p.spsr ||| 0x90, req := true }
  else if a = 1 then { p with inR := p.inR.set 1 v, spsr := p.spsr ||| 0x20 }
  else if a = 2 then { p with inR := p.inR.set 2 v, spsr := p.spsr ||| 0x40 }
  else { p with spsr := setBit p.spsr 3 false }

/-- A master read of external address a (`64_serial_slave.md` R872, R874). -/
def SlavePort.masterRead (p : SlavePort) (a : BitVec 2) : Byte × SlavePort :=
  if a = 0 then (p.outR[0], { p with spsr := setBit p.spsr 0 false })
  else if a = 1 then (p.outR[1], { p with spsr := setBit p.spsr 1 false })
  else if a = 2 then (p.outR[2], { p with spsr := setBit p.spsr 2 false })
  else (p.spsr, p)

/-- The bootstrap has control while the SMODE pins are not 00 and SPCR[7] = 0 (`70_reset_and_hazards.md` R910, R911). -/
def Dev.bootWanted (d : Dev) : Bool := decide (d.smode ≠ 0) && !d.slave.ignoreSmode

end Sys2Proof.Machine
end

