-- ==== Sys2Proof/Machine/IoMap.lean ====
section
/-! DEFINITION. The internal I/O space: which register an address names (`11_io_register_map.md` R952 to R957), what User
mode may reach (`60_exceptions.md` R655, R656), what a read returns and does and what a write does
(`20_memory.md` R52, R73); and the external I/O space (R53, R74; `62_ports_io_banks.md` R740 to R743). -/
namespace Sys2Proof.Machine

/-- A register of a serial port (`64_serial_slave.md` R831). -/
inductive SerialReg where
  | dr | ar | lr | sr | cr | er
deriving DecidableEq, Repr

/-- The internal I/O registers, by the manual's mnemonics (`11_io_register_map.md` R952 to R956). -/
inductive IoReg where
  | gcsr | rtccr | rtc (k : Fin 6) | wdtcr | wdttr | gcm0r | gcm1r | swdtr | gpscr | gocr | gcdr
  | mmidr | stackseg | dataseg | segsize | mbcr (k : Fin 4) | mecr | mtcr | bdcr
  | spd (k : Fin 3) | spsr | spcr | grom | gram | gcpu | grev
  | padr | pbdr | pbddr | pcdr | pcfr
  | portDr (p : TPort) | portCr (p : TPort) | portFr (p : TPort) | portDcr (p : TPort) | portDdr (p : TPort)
  | portBit (p : TPort) (k : BitVec 3)
  | iccsr | iccr | ict (x : Fin 2) | ics (x : Fin 2) | icl (x : Fin 2) | icm (x : Fin 2)
  | ibcr (k : Fin 8) | pwl (k : Fin 4) | pwm (k : Fin 4)
  | qdcsr | qdcr | qdc (x : Fin 2) | qdch (x : Fin 2)
  | i0cr | i1cr
  | tacsr | tapr | tacr | tat (i : Fin 10)
  | tbcsr | tbcr | tbm (x : Fin 2) | tbl (x : Fin 2) | tbcmr | tbclr
  | serial (p : SerialId) (r : SerialReg)
  | uer (k : Fin 22) | edmr | wpcr | stkcr | stkllr | stkhlr | ramsr | wplr | wphr
  | wpsr (x : Fin 2) | wpslr (x : Fin 2) | wpshr (x : Fin 2)
deriving DecidableEq, Repr

/-- Locations 0x00 to 0x2F of both revisions (`11_io_register_map.md` R952). -/
def ioTable0 : List (Nat × IoReg) := [
  (0x00, .gcsr), (0x01, .rtccr), (0x02, .rtc 0), (0x03, .rtc 1), (0x04, .rtc 2), (0x05, .rtc 3),
  (0x06, .rtc 4), (0x07, .rtc 5), (0x08, .wdtcr), (0x09, .wdttr), (0x0A, .gcm0r), (0x0B, .gcm1r),
  (0x0D, .gpscr), (0x0E, .gocr), (0x0F, .gcdr), (0x10, .mmidr), (0x11, .stackseg), (0x12, .dataseg),
  (0x13, .segsize), (0x14, .mbcr 0), (0x15, .mbcr 1), (0x16, .mbcr 2), (0x17, .mbcr 3), (0x18, .mecr),
  (0x19, .mtcr), (0x1C, .bdcr), (0x20, .spd 0), (0x21, .spd 1), (0x22, .spd 2), (0x23, .spsr),
  (0x24, .spcr), (0x2C, .grom), (0x2D, .gram), (0x2E, .gcpu), (0x2F, .grev)]

/-- Locations 0x30 to 0x7F (`11_io_register_map.md` R953). -/
def ioTable1 : List (Nat × IoReg) := [
  (0x30, .padr), (0x38, .portDr .f), (0x3C, .portCr .f), (0x3D, .portFr .f), (0x3E, .portDcr .f), (0x3F, .portDdr .f),
  (0x40, .pbdr), (0x47, .pbddr), (0x48, .portDr .g), (0x4C, .portCr .g), (0x4D, .portFr .g), (0x4E, .portDcr .g),
  (0x4F, .portDdr .g), (0x50, .pcdr), (0x55, .pcfr), (0x56, .iccsr), (0x57, .iccr), (0x58, .ict 0),
  (0x59, .ics 0), (0x5A, .icl 0), (0x5B, .icm 0), (0x5C, .ict 1), (0x5D, .ics 1), (0x5E, .icl 1),
  (0x5F, .icm 1), (0x60, .portDr .d), (0x64, .portCr .d), (0x65, .portFr .d), (0x66, .portDcr .d), (0x67, .portDdr .d),
  (0x68, .portBit .d 0), (0x69, .portBit .d 1), (0x6A, .portBit .d 2), (0x6B, .portBit .d 3), (0x6C, .portBit .d 4), (0x6D, .portBit .d 5),
  (0x6E, .portBit .d 6), (0x6F, .portBit .d 7), (0x70, .portDr .e), (0x74, .portCr .e), (0x75, .portFr .e), (0x77, .portDdr .e),
  (0x78, .portBit .e 0), (0x79, .portBit .e 1), (0x7A, .portBit .e 2), (0x7B, .portBit .e 3), (0x7C, .portBit .e 4), (0x7D, .portBit .e 5),
  (0x7E, .portBit .e 6), (0x7F, .portBit .e 7)]

/-- Locations 0x80 to 0xBF of both revisions (`11_io_register_map.md` R954). -/
def ioTable2 : List (Nat × IoReg) := [
  (0x80, .ibcr 0), (0x81, .ibcr 1), (0x82, .ibcr 2), (0x83, .ibcr 3), (0x84, .ibcr 4), (0x85, .ibcr 5),
  (0x86, .ibcr 6), (0x87, .ibcr 7), (0x88, .pwl 0), (0x89, .pwm 0), (0x8A, .pwl 1), (0x8B, .pwm 1),
  (0x8C, .pwl 2), (0x8D, .pwm 2), (0x8E, .pwl 3), (0x8F, .pwm 3), (0x90, .qdcsr), (0x91, .qdcr),
  (0x94, .qdc 0), (0x96, .qdc 1), (0x98, .i0cr), (0x99, .i1cr), (0xA0, .tacsr), (0xA1, .tapr),
  (0xA3, .tat 0), (0xA4, .tacr), (0xA5, .tat 1), (0xA6, .tat 7), (0xA7, .tat 2), (0xA8, .tat 8),
  (0xA9, .tat 3), (0xAA, .tat 9), (0xAB, .tat 4), (0xAD, .tat 5), (0xAF, .tat 6), (0xB0, .tbcsr),
  (0xB1, .tbcr), (0xB2, .tbm 0), (0xB3, .tbl 0), (0xB4, .tbm 1), (0xB5, .tbl 1), (0xBE, .tbcmr),
  (0xBF, .tbclr)]

/-- Locations 0xC0 to 0xFF (`11_io_register_map.md` R955). -/
def ioTable3 : List (Nat × IoReg) := [
  (0xC0, .serial .a .dr), (0xC1, .serial .a .ar), (0xC2, .serial .a .lr), (0xC3, .serial .a .sr), (0xC4, .serial .a .cr), (0xC5, .serial .a .er),
  (0xC8, .serial .e .dr), (0xC9, .serial .e .ar), (0xCA, .serial .e .lr), (0xCB, .serial .e .sr), (0xCC, .serial .e .cr), (0xCD, .serial .e .er),
  (0xD0, .serial .b .dr), (0xD1, .serial .b .ar), (0xD2, .serial .b .lr), (0xD3, .serial .b .sr), (0xD4, .serial .b .cr), (0xD5, .serial .b .er),
  (0xD8, .serial .f .dr), (0xD9, .serial .f .ar), (0xDA, .serial .f .lr), (0xDB, .serial .f .sr), (0xDC, .serial .f .cr), (0xDD, .serial .f .er),
  (0xE0, .serial .c .dr), (0xE1, .serial .c .ar), (0xE2, .serial .c .lr), (0xE3, .serial .c .sr), (0xE4, .serial .c .cr), (0xE5, .serial .c .er),
  (0xF0, .serial .d .dr), (0xF1, .serial .d .ar), (0xF2, .serial .d .lr), (0xF3, .serial .d .sr), (0xF4, .serial .d .cr), (0xF5, .serial .d .er)]

/-- The locations REV = R3000A adds (`11_io_register_map.md` R956, R958). -/
def ioTable3000A : List (Nat × IoReg) := [
  (0x0C, .swdtr), (0x95, .qdch 0), (0x97, .qdch 1), (0x300, .uer 0), (0x320, .uer 1), (0x330, .uer 2),
  (0x338, .uer 3), (0x340, .uer 4), (0x348, .uer 5), (0x350, .uer 6), (0x358, .uer 7), (0x360, .uer 8),
  (0x370, .uer 9), (0x380, .uer 10), (0x388, .uer 11), (0x390, .uer 12), (0x398, .uer 13), (0x3A0, .uer 14),
  (0x3B0, .uer 15), (0x3C0, .uer 16), (0x3C8, .uer 17), (0x3D0, .uer 18), (0x3D8, .uer 19), (0x3E0, .uer 20),
  (0x3F0, .uer 21), (0x420, .edmr), (0x440, .wpcr), (0x444, .stkcr), (0x445, .stkllr), (0x446, .stkhlr),
  (0x448, .ramsr), (0x460, .wplr), (0x461, .wphr), (0x480, .wpsr 0), (0x481, .wpslr 0), (0x482, .wpshr 0),
  (0x484, .wpsr 1), (0x485, .wpslr 1), (0x486, .wpshr 1)]

/-- The register at a decoded address; `none` where the revision has no register (`11_io_register_map.md` R957). -/
def IoReg.ofAddr (rev : Rev) (a : Nat) : Option IoReg :=
  match rev with
  | .r3000 => (ioTable0 ++ ioTable1 ++ ioTable2 ++ ioTable3).lookup a
  | .r3000A => (ioTable0 ++ ioTable1 ++ ioTable2 ++ ioTable3 ++ ioTable3000A).lookup a

/-- The location an internal I/O address names: its low eight bits, or all sixteen on REV = R3000A with `MMIDR[7]` = 1
(`20_memory.md` R52). -/
def decodeIo (rev : Rev) (m : Mmu) (a : Word) : Nat :=
  match rev with
  | .r3000 => (loByte a).toNat
  | .r3000A => if bit m.mmidr 7 then a.toNat else (loByte a).toNat

/-- The blocks a user-enable register opens: its index, the first and the last location (`60_exceptions.md` R656); IBUER,
which is per bank, is not among them.  SPUER opens all of 0x20 to 0x2F, the ID registers 0x2C to 0x2F included, as R656
prints its range; R655 (c) names those four among the locations denied, so once SPUER is enabled the two rules leave their
access open, and the model lets R656's range win (DESIGN CHOICE, log 15). -/
def userBlocks : List (Fin 22 × Nat × Nat) := [
  (0, 0x01, 0x07), (1, 0x20, 0x2F), (2, 0x30, 0x37), (3, 0x38, 0x3F), (4, 0x40, 0x47), (5, 0x48, 0x4F),
  (6, 0x50, 0x55), (7, 0x56, 0x5F), (8, 0x60, 0x6F), (9, 0x70, 0x7F), (11, 0x88, 0x8F), (12, 0x90, 0x97),
  (13, 0x98, 0x9F), (14, 0xA0, 0xAF), (15, 0xB0, 0xBF), (16, 0xC0, 0xC7), (17, 0xC8, 0xCF), (18, 0xD0, 0xD7),
  (19, 0xD8, 0xDF), (20, 0xE0, 0xE7), (21, 0xF0, 0xF7)]

/-- Whether a value of a user-enable register enables its peripheral; 0x00 never does (`60_exceptions.md` R656, D32,
log 15). -/
def uerEnables (l : UerLayout) (v : Byte) : Bool :=
  match l with
  | .bit7Enables => bit v 7
  | .table t _ => decide (v ≠ 0) && t.getLsbD v.toNat

/-- Whether a value of IBUER enables a bank; 0x00 never does (`60_exceptions.md` R656, D32, log 15). -/
def uerEnablesBank (l : UerLayout) (b : Fin 8) (v : Byte) : Bool :=
  match l with
  | .bit7Enables => bit v b.val
  | .table _ ts => decide (v ≠ 0) && ts[b].getLsbD v.toNat

/-- `UserEnabled(P)` for the peripheral of a user-enable register (`60_exceptions.md` R656, D32, log 15). -/
def userEnabled (cfg : Params) (d : Dev) (k : Fin 22) : Bool :=
  decide (cfg.rev = .r3000A) && uerEnables cfg.uerLayout d.user.uer[k]

/-- Whether IBUER enables a bank (`60_exceptions.md` R656). -/
def bankUserEnabled (cfg : Params) (d : Dev) (b : Fin 8) : Bool := uerEnablesBank cfg.uerLayout b d.user.uer[(10 : Fin 22)]

/-- Whether User mode may write a location (`60_exceptions.md` R655 (a) to (c), R656). -/
def userAllowed (cfg : Params) (d : Dev) (a : Nat) : Bool :=
  (userBlocks.any fun r => decide (r.2.1 ≤ a) && decide (a ≤ r.2.2) && userEnabled cfg d r.1)
    || (if h : 0x80 ≤ a ∧ a < 0x88 then bankUserEnabled cfg d ⟨a - 0x80, by omega⟩ else false)

/-- The value of a register with bits the spec leaves unspecified: free under `~known` (`93_implementation_defined.md` U3). -/
def partly (d : Dev) (known : Byte) (v : Byte) : Byte × Dev := (merge known v (d.draw).1, (d.draw).2)

/-- GROM, GRAM, GCPU, GREV: bit 7 mirrors SPCR[7], bits 6:5 the SMODE pins (`61_system_management.md` R671). -/
def identity (d : Dev) (id : BitVec 5) : Byte := bit1 d.slave.ignoreSmode ++ d.smode ++ id

/-- What a read of a register returns and what it does (`20_memory.md` R73, `60_exceptions.md` R635; each register's own
rule).  A write-only register returns a free value (U3). -/
def readReg (cfg : Params) (d : Dev) : IoReg → Byte × Dev
  | .gcsr =>
    let r := partly d 0xE0 (d.sys.cause ++ 0#6)
    (r.1, { r.2 with sys := d.sys.afterRead })
  | .rtc k => (byte48 d.rtc.hold k.val, d)
  | .mmidr => (d.mmu.mmidr, d)
  | .stackseg => (d.mmu.stackseg, d)
  | .dataseg => (d.mmu.dataseg, d)
  | .segsize => (d.mmu.segsize, d)
  | .mecr => (d.mmu.mecr, d)
  | .spd k =>
    let r := d.slave.readIn k
    (r.1, { d with slave := r.2 })
  | .spsr => (d.slave.spsr, d)
  | .spcr => partly d 0x60 (0#1 ++ d.smode ++ 0#5)
  | .grom => (identity d 0, d)
  | .gram => (identity d 0, d)
  | .gcpu => (identity d 1, d)
  | .grev => (identity d (match cfg.rev with | .r3000 => 0 | .r3000A => 1), d)
  | .padr => readPins cfg.rev d .a
  | .pbdr => readPins cfg.rev d .b
  | .pcdr => readPins cfg.rev d .c
  | .portDr p => readPins cfg.rev d p.port
  | .iccsr =>
    let r := partly d 0xFC d.capture.stat
    (r.1, { r.2 with capture := { d.capture with stat := 0 } })
  | .icl x =>
    let c := d.capture.chan[x]
    (loByte c.latch, { d with capture := { d.capture with
      chan := d.capture.chan.set x { c with hold := hiByte c.latch, holding := true } } })
  | .icm x =>
    let c := d.capture.chan[x]
    (if c.holding then c.hold else hiByte c.latch, { d with capture := { d.capture with
      chan := d.capture.chan.set x { c with holding := false } } })
  | .qdcsr =>
    let r := partly d 0xEE d.quad.stat
    (r.1, { r.2 with quad := { d.quad with stat := 0, req := false } })
  | .qdc x => (d.quad.chan[x].count.extractLsb' 0 8, d)
  | .qdch x =>
    (if quadWide cfg.rev d.quad.qdcr then 0#6 ++ d.quad.chan[x].count.extractLsb' 8 2 else 0, d)
  | .tacsr =>
    let r := partly d 0xFE d.timerA.done
    (r.1, { r.2 with timerA := { d.timerA with done := 0 } })
  | .tbcsr =>
    let r := partly d 0x06 (0#5 ++ bit1 d.timerB.stat[1] ++ bit1 d.timerB.stat[0] ++ 0#1)
    (r.1, { r.2 with timerB := { d.timerB with stat := #v[false, false] } })
  | .tbcmr => (d.timerB.count.extractLsb' 8 2 ++ 0#6, d)
  | .tbclr => (d.timerB.count.extractLsb' 0 8, d)
  | .serial p .dr => serialRead d p false
  | .serial p .ar => serialRead d p true
  | .serial p .lr => serialRead d p false
  | .serial p .sr => (serialStatus d p, d)
  | .serial _ .cr => d.draw
  | .serial _ .er => d.draw
  | .rtccr => d.draw
  | .wdtcr => d.draw
  | .wdttr => d.draw
  | .gcm0r => d.draw
  | .gcm1r => d.draw
  | .swdtr => d.draw
  | .gpscr => d.draw
  | .gocr => d.draw
  | .gcdr => d.draw
  | .mbcr _ => d.draw
  | .mtcr => d.draw
  | .bdcr => d.draw
  | .pbddr => d.draw
  | .pcfr => d.draw
  | .portCr _ => d.draw
  | .portFr _ => d.draw
  | .portDcr _ => d.draw
  | .portDdr _ => d.draw
  | .portBit _ _ => d.draw
  | .iccr => d.draw
  | .ict _ => d.draw
  | .ics _ => d.draw
  | .ibcr _ => d.draw
  | .pwl _ => d.draw
  | .pwm _ => d.draw
  | .qdcr => d.draw
  | .i0cr => d.draw
  | .i1cr => d.draw
  | .tapr => d.draw
  | .tacr => d.draw
  | .tat _ => d.draw
  | .tbcr => d.draw
  | .tbm _ => d.draw
  | .tbl _ => d.draw
  | .uer _ => d.draw
  | .edmr => d.draw
  | .wpcr => d.draw
  | .stkcr => d.draw
  | .stkllr => d.draw
  | .stkhlr => d.draw
  | .ramsr => d.draw
  | .wplr => d.draw
  | .wphr => d.draw
  | .wpsr _ => d.draw
  | .wpslr _ => d.draw
  | .wpshr _ => d.draw

/-- A write of `v` when the reserved bits are as they must be, else the refusal by name (`93_implementation_defined.md`
section 2, log 20). -/
def guarded (ok : Bool) (name : String) (v : Byte) (d : Dev) : Except Refusal Dev :=
  if ok then .ok d else .error (.reservedValue name v)

/-- The devices with one of Ports D to G replaced. -/
def Dev.setTimed (d : Dev) (p : TPort) (x : TimedPort) : Dev := { d with ports := d.ports.setTimed p x }

/-- GPSCR's reserved codes (`61_system_management.md` R676). -/
def gpscrOk (rev : Rev) (v : Byte) : Bool :=
  let hi := (v.extractLsb' 5 3).toNat
  let lo := (v.extractLsb' 0 3).toNat
  (decide (hi = 0) || decide (4 ≤ hi)) && (decide (lo = 0) || decide (4 ≤ lo)) &&
    (match rev with | .r3000 => !bit v 3 | .r3000A => true)

/-- QDCR's reserved codes on REV = R3000A (`63_timers_capture_pwm_qd.md` R811). -/
def qdcrOk (rev : Rev) (v : Byte) : Bool :=
  match rev with
  | .r3000 => true
  | .r3000A => !bit v 4 && decide (field2 v 2 ≠ 1) && decide (field2 v 6 ≠ 1)

/-- The devices with one decoder channel replaced. -/
def Dev.setQuad (d : Dev) (x : Fin 2) (c : QuadChan) : Dev := { d with quad := { d.quad with chan := d.quad.chan.set x c } }

/-- A decoder channel as its input selection changes: it starts from the levels it finds, which counts nothing
(`63_timers_capture_pwm_qd.md` R811, log 16). -/
def quadReselect (rev : Rev) (v : Byte) (x : Fin 2) (d : Dev) : Dev :=
  if quadSelect v x = quadSelect d.quad.qdcr x then d
  else
    let r := quadSample rev d (quadSelect v x) x
    r.2.setQuad x { d.quad.chan[x] with raw := r.1, filt := r.1 }

/-- Bits 9:8 of a count as its counter is widened to ten bits: what they hold then is not stated, so they are free values
(`63_timers_capture_pwm_qd.md` R813, log 16). -/
def quadWiden (rev : Rev) (v : Byte) (x : Fin 2) (d : Dev) : Dev :=
  if quadWide rev v && !quadWide rev d.quad.qdcr then
    (d.draw).2.setQuad x { d.quad.chan[x] with count := field2 (d.draw).1 0 ++ d.quad.chan[x].count.extractLsb' 0 8 }
  else d

/-- A write to QDCR (`63_timers_capture_pwm_qd.md` R811, R813). -/
def quadControl (rev : Rev) (d : Dev) (v : Byte) : Dev :=
  let e := quadWiden rev v 1 (quadWiden rev v 0 (quadReselect rev v 1 (quadReselect rev v 0 d)))
  { e with quad := { e.quad with qdcr := v } }

/-- A write to ICCSR: enables, test mode, and the counter resets (`63_timers_capture_pwm_qd.md` R801). -/
def Capture.writeControl (c : Capture) (v : Byte) : Capture :=
  { c with
    ien := v &&& 0xF0
    test := field2 v 0
    stat := c.stat &&& ~~~(v &&& 0x0C)
    chan := #v[if bit v 2 then { c.chan[0] with count := 0 } else c.chan[0],
               if bit v 3 then { c.chan[1] with count := 0 } else c.chan[1]] }

/-- A write to ICTxR; mode 11 written starts the counter (`63_timers_capture_pwm_qd.md` R802, R805, log 32). -/
def CaptureChan.writeTrigger (c : CaptureChan) (v : Byte) : CaptureChan :=
  { c with trig := v, running := if field2 v 6 = 3 then true else c.running }

/-- What a write of `v` to a register does (`20_memory.md` R73, `60_exceptions.md` R635; each register's own rule).  A
read-only register ignores it; a reserved value is refused (log 20). -/
def writeReg (cfg : Params) (d : Dev) (r : IoReg) (v : Byte) : Except Refusal Dev :=
  match r with
  | .gcsr => .ok { d with sys := d.sys.writeGcsr v }
  | .rtccr => .ok { d with rtc := d.rtc.command v }
  | .rtc k => .ok (if k = 0 then { d with rtc := { d.rtc with hold := d.rtc.count } } else d)
  | .wdtcr => .ok { d with wdt := Watchdog.control cfg.rev d.wdt v }
  | .wdttr => .ok { d with wdt := d.wdt.writeTest v }
  | .gcm0r => guarded (decide (v &&& 0x7F = 0)) "GCM0R" v { d with sys := { d.sys with gcm0r := v } }
  | .gcm1r => guarded (decide (v &&& 0x7F = 0)) "GCM1R" v { d with sys := { d.sys with gcm1r := v } }
  | .swdtr => .ok { d with wdt := d.wdt.writeSwdtr v }
  | .gpscr => guarded (gpscrOk cfg.rev v) "GPSCR" v { d with sys := { d.sys with gpscr := v } }
  | .gocr => .ok { d with sys := { d.sys with gocr := v } }
  | .gcdr => guarded (decide (v &&& 0xF0 = 0)) "GCDR" v { d with sys := { d.sys with gcdr := v } }
  | .mmidr =>
    .ok { d with mmu := { d.mmu with mmidr := v &&& (match cfg.rev with | .r3000 => 0x3F | .r3000A => 0xBF) } }
  | .stackseg => .ok { d with mmu := { d.mmu with stackseg := v } }
  | .dataseg => .ok { d with mmu := { d.mmu with dataseg := v } }
  | .segsize => .ok { d with mmu := { d.mmu with segsize := v } }
  | .mbcr k => .ok { d with mmu := { d.mmu with mbcr := d.mmu.mbcr.set k v } }
  | .mecr => .ok { d with mmu := { d.mmu with mecr := v &&& 0x07 } }
  | .mtcr => guarded (decide (v &&& 0xF0 = 0)) "MTCR" v { d with mmu := { d.mmu with mtcr := v } }
  | .bdcr => guarded (decide (v &&& 0x7F = 0)) "BDCR" v { d with mmu := { d.mmu with bdcr := v } }
  | .spd k => .ok { d with slave := d.slave.writeOut k v }
  | .spsr => .ok { d with slave := d.slave.writeStatus }
  | .spcr =>
    let d1 := { d with slave := { d.slave with ignoreSmode := bit v 7, mode := field2 v 2, prio := field2 v 0 } }
    .ok (if field2 v 2 = 3 ∧ d.slave.mode ≠ 3 then
        { (d1.draw).2 with bus := { d.bus with auxAddr := (d1.draw).1.extractLsb' 0 6 } }
      else d1)
  | .grom => .ok d
  | .gram => .ok d
  | .gcpu => .ok d
  | .grev => .ok d
  | .padr => .ok { d with slave := d.slave.writePadr v }
  | .pbdr => .ok { d with ports := { d.ports with pbOut := v } }
  | .pbddr => .ok { d with ports := { d.ports with pbddr := v } }
  | .pcdr => .ok { d with ports := { d.ports with pcOut := v &&& 0x55 } }
  | .pcfr => .ok { d with ports := { d.ports with pcfr := v &&& 0x55 } }
  | .portDr p => .ok (d.setTimed p ((d.ports.timed p).writeData v))
  | .portCr p => .ok (d.setTimed p (({ d.ports.timed p with cr := v &&& 0x33 }).transfer 0))
  | .portFr p => .ok (d.setTimed p { d.ports.timed p with fr := v &&& funcMask cfg.rev p })
  | .portDcr p => .ok (d.setTimed p { d.ports.timed p with dcr := v })
  | .portDdr p => .ok (d.setTimed p { d.ports.timed p with ddr := v })
  | .portBit p k => .ok (d.setTimed p ((d.ports.timed p).writeBit k v))
  | .iccsr => .ok { d with capture := d.capture.writeControl v }
  | .iccr => .ok { d with capture := { d.capture with prio := field2 v 0 } }
  | .ict x =>
    .ok { d with capture := { d.capture with chan := d.capture.chan.set x (d.capture.chan[x].writeTrigger v) } }
  | .ics x =>
    .ok { d with capture := { d.capture with chan := d.capture.chan.set x { d.capture.chan[x] with src := v } } }
  | .icl _ => .ok d
  | .icm _ => .ok d
  | .ibcr k =>
    .ok { d with bus := { d.bus with ib := d.bus.ib.set k (match cfg.rev with | .r3000 => v &&& 0xF8 | .r3000A => v) } }
  | .pwl k =>
    .ok { d with pwm := { d.pwm with
      pwl := d.pwm.pwl.set k (match cfg.rev with | .r3000 => v &&& 0xC1 | .r3000A => v), req := false } }
  | .pwm k => .ok { d with pwm := { d.pwm with pwm := d.pwm.pwm.set k v, req := false } }
  | .qdcsr =>
    .ok { d with quad := { d.quad with
      chan := #v[if bit v 0 then { d.quad.chan[0] with count := 0 } else d.quad.chan[0],
                 if bit v 4 then { d.quad.chan[1] with count := 0 } else d.quad.chan[1]] } }
  | .qdcr =>
    guarded (qdcrOk cfg.rev v) "QDCR" v (quadControl cfg.rev d v)
  | .qdc _ => .ok d
  | .qdch _ => .ok d
  | .i0cr => .ok { d with int0 := { d.int0 with cr := v } }
  | .i1cr => .ok { d with int1 := { d.int1 with cr := v } }
  | .tacsr => .ok { d with timerA := { d.timerA with ien := v &&& 0xFE, run := bit v 0 } }
  | .tapr => .ok { d with timerA := { d.timerA with tapr0 := bit v 0 } }
  | .tacr => .ok { d with timerA := { d.timerA with tacr := v } }
  | .tat i => .ok { d with timerA := { d.timerA with reload := d.timerA.reload.set i v } }
  | .tbcsr => .ok { d with timerB := { d.timerB with ien := #v[bit v 1, bit v 2], run := bit v 0 } }
  | .tbcr => .ok { d with timerB := { d.timerB with tbcr := v.extractLsb' 0 4 } }
  | .tbm x =>
    .ok { d with timerB := { d.timerB with
      pre := d.timerB.pre.set x (field2 v 6 ++ d.timerB.pre[x].extractLsb' 0 8) } }
  | .tbl x =>
    .ok { d with timerB := { d.timerB with
      pre := d.timerB.pre.set x (d.timerB.pre[x].extractLsb' 8 2 ++ v), valid := d.timerB.valid.set x true } }
  | .tbcmr => .ok d
  | .tbclr => .ok d
  | .serial p .dr => .ok (serialWrite cfg d p ⟨v, .data⟩)
  | .serial p .ar => .ok (serialWrite cfg d p ⟨v, .address⟩)
  | .serial p .lr =>
    if (d.ser p).clocked p && (d.ser p).internalClock then .error (.longStopInClockedMode p)
    else .ok (serialWrite cfg d p ⟨v, .longStop⟩)
  | .serial p .sr => .ok (serialStatusWrite d p)
  | .serial p .cr =>
    let e := serialControl cfg d p v
    if (e.ser p).inHdlc p && hdlcEncodingReserved (e.ser p).er then .error (.reservedValue "SxER" (e.ser p).er) else .ok e
  | .serial p .er =>
    if (d.ser p).inHdlc p && hdlcEncodingReserved v then .error (.reservedValue "SxER" v)
    else .ok (d.setSer p ((d.ser p).writeExtended cfg p v))
  | .uer k => .ok { d with user := { d.user with uer := d.user.uer.set k v } }
  | .edmr => guarded (decide (v &&& 0xFE = 0)) "EDMR" v { d with user := { d.user with edmr := v } }
  | .wpcr => guarded (decide (v &&& 0xFE = 0)) "WPCR" v { d with mmu := { d.mmu with wpcr := v } }
  | .stkcr => guarded (decide (v &&& 0xFE = 0)) "STKCR" v { d with mmu := { d.mmu with stkcr := v } }
  | .stkllr => .ok { d with mmu := { d.mmu with stkllr := v } }
  | .stkhlr => .ok { d with mmu := { d.mmu with stkhlr := v } }
  | .ramsr => .ok { d with mmu := { d.mmu with ramsr := v } }
  | .wplr => .ok { d with mmu := { d.mmu with wplr := v } }
  | .wphr => .ok { d with mmu := { d.mmu with wphr := v } }
  | .wpsr x => guarded (decide (v &&& 0xF0 = 0)) "WPSxR" v { d with mmu := { d.mmu with wpsr := d.mmu.wpsr.set x v } }
  | .wpslr x => .ok { d with mmu := { d.mmu with wpslr := d.mmu.wpslr.set x v } }
  | .wpshr x => .ok { d with mmu := { d.mmu with wpshr := d.mmu.wpshr.set x v } }

/-- REV = R3000: a write to any of 0x31 to 0x3F also writes the Port A output register (`70_reset_and_hazards.md` R925). -/
def portABug (rev : Rev) (a : Nat) (v : Byte) (d : Dev) : Dev :=
  match rev with
  | .r3000 => if 0x31 ≤ a ∧ a ≤ 0x3F then { d with slave := d.slave.writePadr v } else d
  | .r3000A => d

/-- A write to a decoded internal I/O location, with its own effects; an unoccupied one ignores it
(`20_memory.md` R73, `11_io_register_map.md` R957). -/
def writeLocation (cfg : Params) (d : Dev) (a : Nat) (v : Byte) : Except Refusal Dev :=
  match IoReg.ofAddr cfg.rev a with
  | some r => (writeReg cfg d r v).map (portABug cfg.rev a v)
  | none => .ok (portABug cfg.rev a v d)

/-- An internal I/O write (`20_memory.md` R52, R73): ignored where User mode may not (`60_exceptions.md` R655); afterwards
the external interrupt catchers see what became of Port E. -/
def ioWriteInternal (cfg : Params) (user : Bool) (d : Dev) (a : Word) (v : Byte) : Except Refusal Dev :=
  let loc := decodeIo cfg.rev d.mmu a
  if user && !userAllowed cfg d loc then .ok d
  else (writeLocation cfg d loc v).map (catchEdges cfg.rev d)

/-- An internal I/O read (`20_memory.md` R52, R73): a free value and no effect where User mode may not
(`60_exceptions.md` R655 (d), U4) or no register is (U3). -/
def ioReadInternal (cfg : Params) (user : Bool) (d : Dev) (a : Word) : Byte × Dev :=
  let loc := decodeIo cfg.rev d.mmu a
  if user && !userAllowed cfg d loc then d.draw
  else
    match IoReg.ofAddr cfg.rev loc with
    | some r => readReg cfg d r
    | none => d.draw

/-- The bank of an external I/O address (`62_ports_io_banks.md` R741). -/
def ioBank (a : Word) : Fin 8 := ⟨(a.extractLsb' 13 3).toNat, (a.extractLsb' 13 3).isLt⟩

/-- The strobe type field of a bank (`62_ports_io_banks.md` R740). -/
def strobeType (d : Dev) (b : Fin 8) : BitVec 2 := field2 d.bus.ib[b] 4

/-- Whether User mode keeps a bank's strobe from its pin (`60_exceptions.md` R655 (e)). -/
def strobeBlocked (cfg : Params) (user : Bool) (d : Dev) (b : Fin 8) : Bool := user && !bankUserEnabled cfg d b

/-- Whether Port E carries the strobe of a bank; not PE7 while the slave port has it (`62_ports_io_banks.md` R726, R741,
`64_serial_slave.md` R871). -/
def strobeEnabled (cfg : Params) (user : Bool) (d : Dev) (b : Fin 8) : Bool :=
  bit d.ports.e.fr b.val && bit d.ports.e.ddr b.val && !slaveTakes d .e b && !strobeBlocked cfg user d b

/-- The auxiliary bus takes part in an access to a bank (`62_ports_io_banks.md` R743). -/
def auxActive (rev : Rev) (d : Dev) (b : Fin 8) : Bool :=
  decide (d.slave.mode = 3) && (match rev with | .r3000 => true | .r3000A => !bit d.bus.ib[b] 0)

/-- The data lines of an external I/O cycle (`62_ports_io_banks.md` R743). -/
def dataBus (rev : Rev) (d : Dev) (a : Word) : DataBus := if auxActive rev d (ioBank a) then .auxiliary else .memory

/-- The devices after the address phase of an external I/O cycle: the auxiliary address latch, and a strobe pulse
(`62_ports_io_banks.md` R741, R743).  Whether an access in a bank that always uses the memory data bus (IBbCR[0] = 1) moves the
latch of an enabled auxiliary bus is not stated; here it does not (DESIGN CHOICE, log 27). -/
def extAddressPhase (rev : Rev) (d : Dev) (a : Word) (strobe : Bool) : Dev :=
  let d1 := if auxActive rev d (ioBank a) then { d with bus := { d.bus with auxAddr := a.extractLsb' 0 6 } } else d
  if strobe then catchStrobe d1 (ioBank a) else d1

/-- Whether a read asserts the bank's strobe. -/
def readStrobe (cfg : Params) (user : Bool) (d : Dev) (a : Word) : Bool :=
  strobeEnabled cfg user d (ioBank a) && decide (strobeType d (ioBank a) ≠ 2)

/-- Whether a write, permitted or not, asserts the bank's strobe. -/
def writeStrobe (cfg : Params) (user : Bool) (d : Dev) (a : Word) : Bool :=
  strobeEnabled cfg user d (ioBank a) &&
    (decide (strobeType d (ioBank a) = 0) || (bit d.bus.ib[ioBank a] 3 && decide (strobeType d (ioBank a) ≠ 1)))

/-- The byte on the data lines when no device answers an external I/O read: on the auxiliary bus the levels the host holds on
PA[7:0] (`62_ports_io_banks.md` R720, R743), on the memory bus a free value (`20_memory.md` R74, U2). -/
def unansweredRead (bus : DataBus) (d : Dev) : Byte × Dev :=
  match bus with
  | .auxiliary => (d.pins.a, d)
  | .memory => d.draw

/-- An external I/O read: the byte the host's device has ready, which on the auxiliary bus it drives onto PA[7:0]; else what
stands on the data lines; a free value where User mode blocks the bank's strobe (`20_memory.md` R74,
`62_ports_io_banks.md` R743, `60_exceptions.md` R655 (e), log 27). -/
def ioReadExternal (cfg : Params) (user : Bool) (d : Dev) (a : Word) : Byte × Dev :=
  let strobe := readStrobe cfg user d a
  let bus := dataBus cfg.rev d a
  let d1 := extAddressPhase cfg.rev d a strobe
  match strobeBlocked cfg user d (ioBank a), d1.extIn with
  | false, v :: rest => (v, ({ d1 with extIn := rest }).show (.extRead bus a strobe v))
  | false, [] => ((unansweredRead bus d1).1, ((unansweredRead bus d1).2).show (.extRead bus a strobe (unansweredRead bus d1).1))
  | true, _ => ((d1.draw).1, ((d1.draw).2).show (.extRead bus a strobe (d1.draw).1))

/-- An external I/O write: delivered when the bank permits writes, else without its write strobes; the byte stands on the data
lines either way (`20_memory.md` R74, `62_ports_io_banks.md` R741, R743). -/
def ioWriteExternal (cfg : Params) (user : Bool) (d : Dev) (a : Word) (v : Byte) : Dev :=
  let strobe := writeStrobe cfg user d a
  let bus := dataBus cfg.rev d a
  let d1 := extAddressPhase cfg.rev d a strobe
  d1.show (if bit d.bus.ib[ioBank a] 3 then .extWrite bus a strobe v else .extWriteInhibited bus a strobe v)

end Sys2Proof.Machine
end

