-- ==== Sys2Proof/Machine/Interrupts.lean ====
section
/-! DEFINITION. The interrupt sources: their requests, priorities, vectors and what the acknowledge clears
(`60_exceptions.md` R605 to R635). -/
namespace Sys2Proof.Machine

/-- The interrupt sources (`60_exceptions.md` R606). -/
inductive IntSource where
  | systemMode | stackLimit | writeProtect | secondaryWatchdog | external1 | external0 | periodic | quadrature
  | timerB | timerA | capture | pwm | slave | serial (p : SerialId)
deriving DecidableEq, Repr

/-- The sources in the manual's order, highest first (`60_exceptions.md` R606, R611). -/
def IntSource.order : List IntSource := [
  .systemMode, .stackLimit, .writeProtect, .secondaryWatchdog, .external1, .external0, .periodic, .quadrature,
  .timerB, .timerA, .capture, .pwm, .slave, .serial .e, .serial .f, .serial .a, .serial .b, .serial .c, .serial .d]

/-- Whether a source's request flip-flop is set (`60_exceptions.md` R605, R606; Timer A and B and input capture:
`63_timers_capture_pwm_qd.md` R776, R781, R801; the periodic one is off in sleepy mode, `61_system_management.md` R673). -/
def IntSource.pending (d : Dev) : IntSource → Bool
  | .systemMode => d.viol.systemMode
  | .stackLimit => d.viol.stackLimit
  | .writeProtect => d.viol.writeProtect
  | .secondaryWatchdog => d.wdt.swdReq
  | .external1 => d.int1.catchA || d.int1.catchB
  | .external0 => d.int0.catchA || d.int0.catchB
  | .periodic => d.sys.periodicReq && !d.sys.sleepy
  | .quadrature => d.quad.req
  | .timerB => (d.timerB.stat[0] && d.timerB.ien[0]) || (d.timerB.stat[1] && d.timerB.ien[1])
  | .timerA => decide (d.timerA.done &&& d.timerA.ien ≠ 0)
  | .capture => decide (d.capture.stat &&& d.capture.ien ≠ 0)
  | .pwm => d.pwm.req
  | .slave => d.slave.req
  | .serial p => serialRequest d p

/-- A source's p field; the four violation and watchdog sources are fixed at 3 (`60_exceptions.md` R606). -/
def IntSource.field (d : Dev) : IntSource → BitVec 2
  | .systemMode => 3
  | .stackLimit => 3
  | .writeProtect => 3
  | .secondaryWatchdog => 3
  | .external1 => field2 d.int1.cr 0
  | .external0 => field2 d.int0.cr 0
  | .periodic => d.sys.periodicPrio
  | .quadrature => field2 d.quad.qdcr 0
  | .timerB => field2 d.timerB.tbcr 0
  | .timerA => field2 d.timerA.tacr 0
  | .capture => d.capture.prio
  | .pwm => field2 d.pwm.pwl[0] 1
  | .slave => d.slave.prio
  | .serial p => field2 (d.ser p).cr 0

/-- The user-enable register that assigns a serial port to User mode (`60_exceptions.md` R656). -/
def SerialId.userIndex : SerialId → Fin 22
  | .a => 16 | .e => 17 | .b => 18 | .f => 19 | .c => 20 | .d => 21

/-- The user-enable register that assigns a source's peripheral to User mode, where there is one (`60_exceptions.md` R607,
R656). -/
def IntSource.userIndex : IntSource → Option (Fin 22)
  | .external1 => some 13
  | .external0 => some 13
  | .quadrature => some 12
  | .timerB => some 15
  | .timerA => some 14
  | .capture => some 7
  | .pwm => some 11
  | .slave => some 1
  | .serial p => some p.userIndex
  | .systemMode => none
  | .stackLimit => none
  | .writeProtect => none
  | .secondaryWatchdog => none
  | .periodic => none

/-- `prio(s)`: 0 = disabled; a source assigned to User mode requests level 2 where its field says 3 (`60_exceptions.md`
R607). -/
def IntSource.prio (cfg : Params) (d : Dev) (s : IntSource) : BitVec 2 :=
  let p := s.field d
  match s.userIndex with
  | some k => if p = 3 && userEnabled cfg d k then 2 else p
  | none => p

/-- Whether a source is a candidate against the processor priority `cur` (`60_exceptions.md` R610). -/
def IntSource.candidate (cfg : Params) (d : Dev) (cur : BitVec 2) (s : IntSource) : Bool :=
  s.pending d && decide (cur < s.prio cfg d)

/-- The first of the candidates in `order` at priority `p`. -/
def candidateAt (cfg : Params) (d : Dev) (cur p : BitVec 2) : Option IntSource :=
  IntSource.order.find? fun s => s.candidate cfg d cur && decide (s.prio cfg d = p)

/-- `Select(cand)`: the highest priority, and among equals the first in the manual's order (`60_exceptions.md` R610, R611). -/
def selectInterrupt (cfg : Params) (d : Dev) (cur : BitVec 2) : Option IntSource :=
  (candidateAt cfg d cur 3).or ((candidateAt cfg d cur 2).or (candidateAt cfg d cur 1))

/-- A vector in the internal table: `{IIR[7:1], b, off}` (`60_exceptions.md` R630). -/
def internalVector (iir : Byte) (b : Bool) (off : Byte) : Word := (iir.extractLsb' 1 7 ++ bit1 b) ++ off

/-- The offset of a serial port's vector, with the bit b (`60_exceptions.md` R630). -/
def SerialId.vector : SerialId → Bool × Byte
  | .a => (false, 0xC0) | .b => (false, 0xD0) | .c => (false, 0xE0) | .d => (false, 0xF0)
  | .e => (true, 0xC0) | .f => (true, 0xD0)

/-- The bit b and offset of a source in the internal table; `none` for the external interrupts, which use EIR, and for the
PWM when the implementation names no vector (`60_exceptions.md` R630, log 13). -/
def IntSource.slot (cfg : Params) : IntSource → Option (Bool × Byte)
  | .periodic => some (false, 0x00)
  | .secondaryWatchdog => some (false, 0x10)
  | .slave => some (false, 0x80)
  | .writeProtect => some (false, 0x90)
  | .timerA => some (false, 0xA0)
  | .timerB => some (false, 0xB0)
  | .systemMode => some (true, 0x80)
  | .quadrature => some (true, 0x90)
  | .capture => some (true, 0xA0)
  | .stackLimit => some (true, 0xB0)
  | .serial p => some p.vector
  | .pwm => cfg.pwmVector
  | .external0 => none
  | .external1 => none

/-- `Vector(s)` (`60_exceptions.md` R630). -/
def IntSource.vector (cfg : Params) (iir eir : Byte) (s : IntSource) : Option Word :=
  match s with
  | .external0 => some (word eir 0x00)
  | .external1 => some (word eir 0x10)
  | other => (other.slot cfg).map fun x => internalVector iir x.1 x.2

/-- What the interrupt acknowledge clears (`60_exceptions.md` R606, R635): the three violations, and both pulse catchers of
an external interrupt. -/
def acknowledge (d : Dev) : IntSource → Dev
  | .systemMode => { d with viol := { d.viol with systemMode := false } }
  | .stackLimit => { d with viol := { d.viol with stackLimit := false } }
  | .writeProtect => { d with viol := { d.viol with writeProtect := false } }
  | .external1 => { d with int1 := { d.int1 with catchA := false, catchB := false } }
  | .external0 => { d with int0 := { d.int0 with catchA := false, catchB := false } }
  | .secondaryWatchdog => d
  | .periodic => d
  | .quadrature => d
  | .timerB => d
  | .timerA => d
  | .capture => d
  | .pwm => d
  | .slave => d
  | .serial _ => d

end Sys2Proof.Machine
end

