-- ==== Sys2Proof/Machine/Ops.lean ====
section
/-! DEFINITION. The operations the meanings share: data accesses in memory or I/O space, the stack, the completion of an
instruction, taking an exception and returning from one. -/
namespace Sys2Proof.Machine

/-- Go on with the next state, if there is one. -/
def andThen (r : Result) (g : State → Result) : Result :=
  match r with
  | .next s => g s
  | .fault e => .fault e
  | .refused e => .refused e

/-- The latches as an instruction completes: the prefixes are consumed, and interrupts deferred if it was privileged
(`10_state.md` R35, `46_prefix_block.md` R470, R475, `48_misc_privileged.md` R540). -/
def Cpu.retire (c : Cpu) (privileged : Bool) : Cpu :=
  { c with altd := false, iospace := .memory, defer := privileged, lastIo := decide (c.iospace ≠ .memory) }

/-- The state as an instruction that is not privileged completes. -/
def State.retired (s : State) : State := { s with cpu := s.cpu.retire false }

/-- The state as a privileged instruction completes (`48_misc_privileged.md` R540, R541). -/
def State.retiredHeld (s : State) : State := { s with cpu := s.cpu.retire true }

/-- An instruction that is not privileged completes. -/
def State.done (s : State) : Result := .next s.retired

/-- A privileged instruction completes. -/
def State.doneHeld (s : State) : Result := .next s.retiredHeld

/-! Data accesses -/

/-- `MemRead(a, 1)` of an access the I/O prefix redirects (`00_scope.md` R11, `20_memory.md` R72 to R74). -/
def State.load8 (s : State) (a : Word) : Byte × State :=
  match s.cpu.iospace with
  | .memory => s.memRead a
  | .internal =>
    let r := ioReadInternal s.cfg s.userMode s.dev a
    (r.1, { s with dev := r.2 })
  | .external =>
    let r := ioReadExternal s.cfg s.userMode s.dev a
    (r.1, { s with dev := r.2 })

/-- An I/O write with the devices it leaves, or its refusal; after a reset has ended the instruction it does not happen
(`70_reset_and_hazards.md` R900). -/
def State.ioWrite (s : State) (r : Except Refusal Dev) : Result :=
  if s.writesGoOn then
    match r with
    | .ok d => .next { s with dev := d, writesLeft := s.oneWriteLess }
    | .error e => .refused e
  else .next s

/-- `MemWrite(a, 1, v)` of an access the I/O prefix redirects (`00_scope.md` R11, `20_memory.md` R72 to R74). -/
def State.store8 (s : State) (a : Word) (v : Byte) : Result :=
  match s.cpu.iospace with
  | .memory => .next (s.memWrite a v)
  | .internal => s.ioWrite (ioWriteInternal s.cfg s.userMode s.dev a v)
  | .external => s.ioWrite (.ok (ioWriteExternal s.cfg s.userMode s.dev a v))

/-- Between the two byte reads of a 16-bit read in I/O space: the peripheral-clock cycles that the outside world lets pass
there, during which a register that changes by itself may change; none in memory (`20_memory.md` R67, log 18). -/
def State.timeInside (s : State) : State :=
  match s.cpu.iospace with
  | .memory => s
  | .internal => { s with dev := perclkTicks s.cfg s.dev.inside { s.dev with inside := 0 } }
  | .external => { s with dev := perclkTicks s.cfg s.dev.inside { s.dev with inside := 0 } }

/-- `MemRead(a, 2)`: the low byte first (`00_scope.md` R11, `20_memory.md` R65 to R68). -/
def State.load16 (s : State) (a : Word) : Word × State :=
  let lo := s.load8 a
  let hi := lo.2.timeInside.load8 (a + 1)
  (word hi.1 lo.1, hi.2)

/-- `MemWrite(a, 2, w)`: the low byte first. -/
def State.store16 (s : State) (a w : Word) : Result :=
  andThen (s.store8 a (loByte w)) fun t => t.store8 (a + 1) (hiByte w)

/-- A two-byte physical read of LDP (`41_load_indexed.md` R216, `20_memory.md` R63). -/
def State.ldpRead (s : State) (p : Word) : Word × State :=
  let lo := s.physRead false (ldpPhys s.a p)
  let hi := lo.2.physRead false (ldpPhys s.a (p + 1))
  (word hi.1 lo.1, hi.2)

/-- A two-byte physical write of LDP (`41_load_indexed.md` R216, `20_memory.md` R63). -/
def State.ldpWrite (s : State) (p w : Word) : State :=
  (s.physWrite false (ldpPhys s.a p) (loByte w)).physWrite false (ldpPhys s.a (p + 1)) (hiByte w)

/-! The stack -/

/-- Whether the stack limits are checked (`21_memory_interface.md` R105). -/
def State.stackChecked (s : State) : Bool :=
  decide (s.cfg.rev = .r3000A) && (bit s.dev.mmu.stkcr 0 || s.userMode)

/-- Whether a logical address lies outside the stack limits (`21_memory_interface.md` R105). -/
def stackOutside (m : Mmu) (a : Word) : Bool :=
  decide (a < word m.stkllr 0x10) || decide (word m.stkhlr 0x00 - 0x11 < a)

/-- The limit check of one stack access: a violation only requests its interrupt (`21_memory_interface.md` R105, D14,
log 22). -/
def State.checkStack (s : State) (a : Word) : State :=
  { s with dev := { s.dev with viol := { s.dev.viol with
      stackLimit := s.dev.viol.stackLimit || (s.stackChecked && stackOutside s.dev.mmu a) } } }

/-- A byte read whose address is formed from SP. -/
def State.stackRead (s : State) (a : Word) : Byte × State := (s.checkStack a).memRead a

/-- A byte write whose address is formed from SP. -/
def State.stackWrite (s : State) (a : Word) (v : Byte) : State := (s.checkStack a).memWrite a v

/-- A word read whose address is formed from SP: the low byte first (`20_memory.md` R68). -/
def State.stackRead16 (s : State) (a : Word) : Word × State :=
  let lo := s.stackRead a
  let hi := lo.2.stackRead (a + 1)
  (word hi.1 lo.1, hi.2)

/-- A word write whose address is formed from SP, not a push: the low byte first (`20_memory.md` R68 (b)). -/
def State.stackWrite16 (s : State) (a w : Word) : State :=
  (s.stackWrite a (loByte w)).stackWrite (a + 1) (hiByte w)

/-- Push a byte (`42_move_exchange_stack.md` R285). -/
def State.push8 (s : State) (v : Byte) : State := (s.stackWrite (s.cpu.sp - 1) v).setSp (s.cpu.sp - 1)

/-- Push a word: the high byte first, at SP-1 (`42_move_exchange_stack.md` R288, `20_memory.md` R65, R68). -/
def State.push16 (s : State) (w : Word) : State :=
  ((s.stackWrite (s.cpu.sp - 1) (hiByte w)).stackWrite (s.cpu.sp - 2) (loByte w)).setSp (s.cpu.sp - 2)

/-- Pop a byte (`42_move_exchange_stack.md` R281). -/
def State.pop8 (s : State) : Byte × State :=
  let r := s.stackRead s.cpu.sp
  (r.1, r.2.setSp (s.cpu.sp + 1))

/-- Pop a word: the low byte first (`42_move_exchange_stack.md` R284, `20_memory.md` R68). -/
def State.pop16 (s : State) : Word × State :=
  let r := s.stackRead16 s.cpu.sp
  (r.1, r.2.setSp (s.cpu.sp + 2))

/-! Taking an exception and returning from one -/

/-- `{x[5:0], p}`: a two-bit value pushed on the history in IP or SU (`10_state.md` R27, R29). -/
def pushField (x : Byte) (p : BitVec 2) : Byte := x.extractLsb' 0 6 ++ p

/-- `{x[1:0], x[7:2]}`: the history in IP or SU rotated back (`48_misc_privileged.md` R535, `49_r3000a_opcodes.md` R563). -/
def popField (x : Byte) : Byte := x.extractLsb' 0 2 ++ x.extractLsb' 2 6

/-- SU as any entry leaves it: System mode pushed, on REV = R3000A (`60_exceptions.md` R620 step 5, R653). -/
def State.systemSu (s : State) : Byte :=
  match s.cfg.rev with
  | .r3000 => s.cpu.su
  | .r3000A => pushField s.cpu.su 0

/-- Taking an exception: the address of the next instruction is pushed (`lost`: SP moves but the bytes are not stored), the
processor enters System mode and goes on at the vector (`60_exceptions.md` R620 steps 3, 5, 6, R621). -/
def State.enter (s : State) (lost : Bool) (vector : Word) : State :=
  let t := if lost then s.setSp (s.cpu.sp - 2) else s.push16 s.cpu.pc
  (t.setSu t.systemSu).setPc vector

/-- A software trap: RST or SYSCALL with its offset in the internal table; IP does not change (`60_exceptions.md` R621,
`47_control.md` R520, `49_r3000a_opcodes.md` R566). -/
def State.trap (s : State) (off : Byte) : State := s.enter false (internalVector s.cpu.iir false off)

/-- REV = R3000: the return address is not stored when an interrupt follows an I/O instruction under short chip select
(`70_reset_and_hazards.md` R930). -/
def State.pushLost (s : State) : Bool :=
  decide (s.cfg.rev = .r3000) && bit s.dev.sys.gpscr 4 && s.cpu.lastIo &&
    (decide (s.dev.sys.clockSel = 0) || decide (s.dev.sys.clockSel = 1) || decide (s.dev.sys.clockSel = 6)
      || decide (s.dev.sys.clockSel = 7))

/-- Interrupt entry: look-ahead read, acknowledge, push, priority, mode, vector, latches (`60_exceptions.md` R620). -/
def State.interrupt (s : State) (src : IntSource) (prio : BitVec 2) (vector : Word) : State :=
  let s1 := (s.fetchRead s.cpu.pc).2
  let s2 := { s1 with dev := acknowledge s1.dev src }
  let s3 := (s2.enter s2.pushLost vector).setIp (pushField s2.cpu.ip prio)
  { s3 with cpu := { s3.cpu with altd := false, iospace := .memory, defer := false, lastIo := false } }

/-- An interrupt taken, or the refusal of one whose vector nobody gives (`60_exceptions.md` R620, R630, log 13). -/
def State.takeInterrupt (s : State) (src : IntSource) : Result :=
  match src.vector s.cfg s.cpu.iir s.cpu.eir with
  | some v => .next (s.interrupt src (src.prio s.cfg s.dev) v)
  | none => .refused .pwmVectorOpen

/-- The interrupt the acceptance test takes at this boundary, if any (`60_exceptions.md` R610). -/
def State.interruptDue (s : State) : Option IntSource :=
  if s.cpu.defer then none else selectInterrupt s.cfg s.dev (field2 s.cpu.ip 0)

/-- RET: pop the program counter (`47_control.md` R513). -/
def State.popPc (s : State) : State :=
  let r := s.pop16
  r.2.setPc r.1

/-- RETI: pop IP, then the program counter (`47_control.md` R515). -/
def State.popIpPc (s : State) : State :=
  let r := s.pop8
  (r.2.setIp r.1).popPc

/-- LRET: pop the program counter, then XPC (`47_control.md` R512). -/
def State.popPcXpc (s : State) : State :=
  let r := s.popPc.pop8
  r.2.setXpc r.1

/-- LCALL's push: XPC, then the program counter (`47_control.md` R510). -/
def State.pushXpcPc (s : State) : State := (s.push8 s.cpu.xpc).push16 s.cpu.pc

/-- `USER_IPSET3` = refuse: User mode runs an instruction that can raise the priority to 3 or leave the mode
(`60_exceptions.md` R658, D31, log 14). -/
def State.priorityRefused (s : State) : Bool := decide (s.cfg.userIpset3 = .refuse) && s.userMode

/-- The instruction's effect `r`, or the refusal of R658. -/
def State.unlessPriorityRefused (s : State) (mnemonic : String) (r : Result) : Result :=
  if s.priorityRefused then .refused (.userPriority mnemonic) else r

/-! Shapes several instructions share -/

/-- Store a byte and complete. -/
def State.storeByte (s : State) (a : Word) (v : Byte) : Result := andThen (s.store8 a v) State.done

/-- Store a word and complete. -/
def State.storeWord (s : State) (a w : Word) : Result := andThen (s.store16 a w) State.done

/-- Load a byte into `dst(r)` and complete. -/
def State.loadByte (s : State) (r : R8) (a : Word) : Result := (((s.load8 a).2).setDst8 r (s.load8 a).1).done

/-- Load a word into `dst(ss)` and complete. -/
def State.loadWord (s : State) (ss : SS) (a : Word) : Result := (((s.load16 a).2).setDstSs ss (s.load16 a).1).done

/-- An ALU operation on A and an operand: `dst(A)` (CP: no register) and all four flags (`44_arith8.md` R350). -/
def State.aluStep (s : State) (op : AluOp) (b : Byte) : State :=
  let r := alu s.cfg.subCarry op s.a b s.carry
  s.onDst fun x => { x with a := if op = .cp then x.a else r.1, f := putFlags r.2 x.f }

/-- An ALU operation whose operand is in memory or I/O space (`44_arith8.md` R351). -/
def State.aluAt (s : State) (op : AluOp) (a : Word) : Result := (((s.load8 a).2).aluStep op (s.load8 a).1).done

/-- Read a byte, compute, write it back at the same address, and write flags (`20_memory.md` R68 (d)). -/
def State.modify (s : State) (a : Word) (g : Byte → Byte × (Byte → Byte)) : Result :=
  let r := s.load8 a
  andThen (r.2.store8 a (g r.1).1) fun t => (t.onFlags (g r.1).2).done

/-- A shift or rotate of a byte: its result and what it writes into F (`45_bit_shift.md` R433). -/
def shiftOut (op : ShiftOp) (cin : Bool) (v : Byte) : Byte × (Byte → Byte) :=
  let r := shift8 op v cin
  (r.1, putFlags (shiftFlags r.1 r.2))

/-- The memory form of a shift or rotate (`45_bit_shift.md` R433). -/
def State.shiftAt (s : State) (op : ShiftOp) (a : Word) : Result := s.modify a (shiftOut op s.carry)

/-- The register form of a shift or rotate (`45_bit_shift.md` R433). -/
def State.shiftReg (s : State) (op : ShiftOp) (r : R8) : Result :=
  let x := shiftOut op s.carry (s.r8 r)
  ((s.setDst8 r x.1).onFlags x.2).done

/-- The state after BIT of a value: only Z, in the flag destination (`45_bit_shift.md` R420). -/
def State.testBit (s : State) (b : BitVec 3) (v : Byte) : State := s.onFlags (putZ (decide (v &&& bitMask b = 0)))

/-- `INC (a)` (`44_arith8.md` R396). -/
def State.incAt (s : State) (a : Word) : Result := s.modify a fun v => ((incFlags v).1, putSZV (incFlags v).2)

/-- `DEC (a)` (`44_arith8.md` R392). -/
def State.decAt (s : State) (a : Word) : Result := s.modify a fun v => ((decFlags v).1, putSZV (decFlags v).2)

/-- A result in HL with its flags: `dst(HL)` and the flag destination (`43_arith16.md` R300 (c)). -/
def State.hlResult (s : State) (w : Word) (g : Byte → Byte) : Result := ((s.setDstHl w).onFlags g).done

/-- A result in IX with its flags (`43_arith16.md` R300 (d)). -/
def State.ixResult (s : State) (w : Word) (g : Byte → Byte) : Result := ((s.setIx w).onFlags g).done

/-- A result in IY with its flags (`43_arith16.md` R300 (d)). -/
def State.iyResult (s : State) (w : Word) (g : Byte → Byte) : Result := ((s.setIy w).onFlags g).done

/-- `BOOL` (`43_arith16.md` R308). -/
def boolOf (w : Word) : Word := if w = 0 then 0 else 1

/-- How a block move changes an address register: down, not at all, up (`49_r3000a_opcodes.md` R553). -/
inductive Stride where
  | down | fixed | up
deriving DecidableEq, Repr

/-- An address register after one iteration (`46_prefix_block.md` R480 to R483, `49_r3000a_opcodes.md` R553). -/
def Stride.move (t : Stride) (w : Word) : Word :=
  match t with
  | .down => w - 1
  | .fixed => w
  | .up => w + 1

/-- The registers after one iteration of a block move: BC, DE, HL and L/V of the main set (`46_prefix_block.md` R480,
R485). -/
def State.blockRegs (s : State) (src dst : Stride) : State :=
  s.onMain fun x =>
    let bc := x.bc - 1
    let y := ((x.setBc bc).setDe (dst.move x.de)).setHl (src.move x.hl)
    { y with f := putLv (decide (bc = 0)) y.f }

/-- The end of an iteration of a repeating instruction: while BC is not 0 it is executed again from its first byte
(`46_prefix_block.md` R486, log 23). -/
def State.repeatWhileBc (s : State) : State := if s.bc = 0 then s else s.setPc s.cpu.start

/-- One iteration with the destination in the prefixed space, the source in memory (`46_prefix_block.md` R480,
`49_r3000a_opcodes.md` R553: I column d). -/
def State.blockOut (s : State) (src dst : Stride) : Result :=
  andThen ((s.memRead s.hl).2.store8 s.de (s.memRead s.hl).1) fun t => .next (t.blockRegs src dst)

/-- One iteration with the source in the prefixed space, the destination in memory (`49_r3000a_opcodes.md` R553: I column
s). -/
def State.blockIn (s : State) (src dst : Stride) : Result :=
  .next (((s.load8 s.hl).2.memWrite s.de (s.load8 s.hl).1).blockRegs src dst)

end Sys2Proof.Machine
end

