-- ==== Sys2Proof/Machine/Arith16.lean ====
section
/-! DEFINITION. 16-bit arithmetic and logic (`43_arith16.md`). -/
namespace Sys2Proof.Machine

/-- `ADC HL,ss` (`43_arith16.md` R301). -/
def execAdcHlSs (ss : SS) (s : State) : Result :=
  let r := addFlags s.hl (s.ss ss) s.carry
  s.hlResult r.1 (putFlags r.2)

/-- `ADD HL,ss`: C only (`43_arith16.md` R302). -/
def execAddHlSs (ss : SS) (s : State) : Result :=
  let r := addFlags s.hl (s.ss ss) false
  s.hlResult r.1 (putC r.2.c)

/-- `ADD IX,xx`: C only (`43_arith16.md` R303). -/
def execAddIxXx (xx : XX) (s : State) : Result :=
  let r := addFlags s.cpu.ix (s.xx xx) false
  s.ixResult r.1 (putC r.2.c)

/-- `ADD IY,yy`: C only (`43_arith16.md` R304). -/
def execAddIyYy (yy : YY) (s : State) : Result :=
  let r := addFlags s.cpu.iy (s.yy yy) false
  s.iyResult r.1 (putC r.2.c)

/-- `AND HL,DE` (`43_arith16.md` R305). -/
def execAndHlDe (s : State) : Result := s.hlResult (s.hl &&& s.de) (putFlags (logicFlags (s.hl &&& s.de)))

/-- `AND IX,DE` (`43_arith16.md` R306). -/
def execAndIxDe (s : State) : Result := s.ixResult (s.cpu.ix &&& s.de) (putFlags (logicFlags (s.cpu.ix &&& s.de)))

/-- `AND IY,DE` (`43_arith16.md` R307). -/
def execAndIyDe (s : State) : Result := s.iyResult (s.cpu.iy &&& s.de) (putFlags (logicFlags (s.cpu.iy &&& s.de)))

/-- `OR HL,DE` (`43_arith16.md` R318). -/
def execOrHlDe (s : State) : Result := s.hlResult (s.hl ||| s.de) (putFlags (logicFlags (s.hl ||| s.de)))

/-- `OR IX,DE` (`43_arith16.md` R319). -/
def execOrIxDe (s : State) : Result := s.ixResult (s.cpu.ix ||| s.de) (putFlags (logicFlags (s.cpu.ix ||| s.de)))

/-- `OR IY,DE` (`43_arith16.md` R320). -/
def execOrIyDe (s : State) : Result := s.iyResult (s.cpu.iy ||| s.de) (putFlags (logicFlags (s.cpu.iy ||| s.de)))

/-- `BOOL HL` (`43_arith16.md` R308). -/
def execBoolHl (s : State) : Result := s.hlResult (boolOf s.hl) (putFlags (boolFlags (boolOf s.hl)))

/-- `BOOL IX` (`43_arith16.md` R309). -/
def execBoolIx (s : State) : Result := s.ixResult (boolOf s.cpu.ix) (putFlags (boolFlags (boolOf s.cpu.ix)))

/-- `BOOL IY` (`43_arith16.md` R310). -/
def execBoolIy (s : State) : Result := s.iyResult (boolOf s.cpu.iy) (putFlags (boolFlags (boolOf s.cpu.iy)))

/-- `DEC IX`: no flag (`43_arith16.md` R311). -/
def execDecIx (s : State) : Result := (s.setIx (s.cpu.ix - 1)).done

/-- `DEC IY`: no flag (`43_arith16.md` R312). -/
def execDecIy (s : State) : Result := (s.setIy (s.cpu.iy - 1)).done

/-- `DEC ss`: no flag (`43_arith16.md` R313). -/
def execDecSs (ss : SS) (s : State) : Result := (s.setDstSs ss (s.ss ss - 1)).done

/-- `INC IX`: no flag (`43_arith16.md` R314). -/
def execIncIx (s : State) : Result := (s.setIx (s.cpu.ix + 1)).done

/-- `INC IY`: no flag (`43_arith16.md` R315). -/
def execIncIy (s : State) : Result := (s.setIy (s.cpu.iy + 1)).done

/-- `INC ss`: no flag (`43_arith16.md` R316). -/
def execIncSs (ss : SS) (s : State) : Result := (s.setDstSs ss (s.ss ss + 1)).done

/-- The 32-bit product of two signed words (`43_arith16.md` R317). -/
def product (x y : Word) : BitVec 32 := BitVec.ofInt 32 (x.toInt * y.toInt)

/-- `MUL`: HL and BC become the product of BC and DE (`43_arith16.md` R317). -/
def execMul (s : State) : Result :=
  let p := product s.bc s.de
  (s.onMain fun x => (x.setHl (p.extractLsb' 16 16)).setBc (p.extractLsb' 0 16)).done

/-- `RL DE` (`43_arith16.md` R321). -/
def execRlDe (s : State) : Result :=
  let r := rl16 s.de s.carry
  ((s.setDstDe r.1).onFlags (putFlags (shiftFlags r.1 r.2))).done

/-- `RR DE` (`43_arith16.md` R322). -/
def execRrDe (s : State) : Result :=
  let r := rr16 s.de s.carry
  ((s.setDstDe r.1).onFlags (putFlags (shiftFlags r.1 r.2))).done

/-- `RR HL` (`43_arith16.md` R323). -/
def execRrHl (s : State) : Result :=
  let r := rr16 s.hl s.carry
  s.hlResult r.1 (putFlags (shiftFlags r.1 r.2))

/-- `RR IX` (`43_arith16.md` R324). -/
def execRrIx (s : State) : Result :=
  let r := rr16 s.cpu.ix s.carry
  s.ixResult r.1 (putFlags (shiftFlags r.1 r.2))

/-- `RR IY` (`43_arith16.md` R325). -/
def execRrIy (s : State) : Result :=
  let r := rr16 s.cpu.iy s.carry
  s.iyResult r.1 (putFlags (shiftFlags r.1 r.2))

/-- `SBC HL,ss`: C is the borrow (`43_arith16.md` R326). -/
def execSbcHlSs (ss : SS) (s : State) : Result :=
  let r := subFlags s.hl (s.ss ss) s.carry
  s.hlResult r.1 (putFlags r.2)

end Sys2Proof.Machine
end

