-- ==== Sys2Proof/Machine/Arith8.lean ====
section
/-! DEFINITION. 8-bit arithmetic and logic (`44_arith8.md`). -/
namespace Sys2Proof.Machine

/-- `ADC A,(HL)` (`44_arith8.md` R352). -/
def execAdcAAtHl (s : State) : Result := s.aluAt .adc s.hl

/-- `ADC A,(IX+d)` (`44_arith8.md` R353). -/
def execAdcAAtIxD (d : Byte) (s : State) : Result := s.aluAt .adc (s.eaIx d)

/-- `ADC A,(IY+d)` (`44_arith8.md` R354). -/
def execAdcAAtIyD (d : Byte) (s : State) : Result := s.aluAt .adc (s.eaIy d)

/-- `ADC A,n` (`44_arith8.md` R355). -/
def execAdcAN (n : Byte) (s : State) : Result := (s.aluStep .adc n).done

/-- `ADC A,r` (`44_arith8.md` R356). -/
def execAdcAR (r : R8) (s : State) : Result := (s.aluStep .adc (s.r8 r)).done

/-- `ADD A,(HL)` (`44_arith8.md` R357). -/
def execAddAAtHl (s : State) : Result := s.aluAt .add s.hl

/-- `ADD A,(IX+d)` (`44_arith8.md` R358). -/
def execAddAAtIxD (d : Byte) (s : State) : Result := s.aluAt .add (s.eaIx d)

/-- `ADD A,(IY+d)` (`44_arith8.md` R359). -/
def execAddAAtIyD (d : Byte) (s : State) : Result := s.aluAt .add (s.eaIy d)

/-- `ADD A,n` (`44_arith8.md` R360). -/
def execAddAN (n : Byte) (s : State) : Result := (s.aluStep .add n).done

/-- `ADD A,r` (`44_arith8.md` R361). -/
def execAddAR (r : R8) (s : State) : Result := (s.aluStep .add (s.r8 r)).done

/-- `AND (HL)` (`44_arith8.md` R362). -/
def execAndAtHl (s : State) : Result := s.aluAt .and s.hl

/-- `AND (IX+d)` (`44_arith8.md` R363). -/
def execAndAtIxD (d : Byte) (s : State) : Result := s.aluAt .and (s.eaIx d)

/-- `AND (IY+d)` (`44_arith8.md` R364). -/
def execAndAtIyD (d : Byte) (s : State) : Result := s.aluAt .and (s.eaIy d)

/-- `AND n` (`44_arith8.md` R365). -/
def execAndN (n : Byte) (s : State) : Result := (s.aluStep .and n).done

/-- `AND r` (`44_arith8.md` R366). -/
def execAndR (r : R8) (s : State) : Result := (s.aluStep .and (s.r8 r)).done

/-- `CP (HL)` (`44_arith8.md` R367). -/
def execCpAtHl (s : State) : Result := s.aluAt .cp s.hl

/-- `CP (IX+d)` (`44_arith8.md` R368). -/
def execCpAtIxD (d : Byte) (s : State) : Result := s.aluAt .cp (s.eaIx d)

/-- `CP (IY+d)` (`44_arith8.md` R369). -/
def execCpAtIyD (d : Byte) (s : State) : Result := s.aluAt .cp (s.eaIy d)

/-- `CP n` (`44_arith8.md` R370). -/
def execCpN (n : Byte) (s : State) : Result := (s.aluStep .cp n).done

/-- `CP r` (`44_arith8.md` R371). -/
def execCpR (r : R8) (s : State) : Result := (s.aluStep .cp (s.r8 r)).done

/-- `OR (HL)` (`44_arith8.md` R372). -/
def execOrAtHl (s : State) : Result := s.aluAt .or s.hl

/-- `OR (IX+d)` (`44_arith8.md` R373). -/
def execOrAtIxD (d : Byte) (s : State) : Result := s.aluAt .or (s.eaIx d)

/-- `OR (IY+d)` (`44_arith8.md` R374). -/
def execOrAtIyD (d : Byte) (s : State) : Result := s.aluAt .or (s.eaIy d)

/-- `OR n` (`44_arith8.md` R375). -/
def execOrN (n : Byte) (s : State) : Result := (s.aluStep .or n).done

/-- `OR r` (`44_arith8.md` R376). -/
def execOrR (r : R8) (s : State) : Result := (s.aluStep .or (s.r8 r)).done

/-- `SBC A,(HL)` (`44_arith8.md` R377). -/
def execSbcAAtHl (s : State) : Result := s.aluAt .sbc s.hl

/-- `SBC A,(IX+d)` (`44_arith8.md` R378). -/
def execSbcAAtIxD (d : Byte) (s : State) : Result := s.aluAt .sbc (s.eaIx d)

/-- `SBC A,(IY+d)` (`44_arith8.md` R379). -/
def execSbcAAtIyD (d : Byte) (s : State) : Result := s.aluAt .sbc (s.eaIy d)

/-- `SBC A,n` (`44_arith8.md` R380). -/
def execSbcAN (n : Byte) (s : State) : Result := (s.aluStep .sbc n).done

/-- `SBC A,r` (`44_arith8.md` R381). -/
def execSbcAR (r : R8) (s : State) : Result := (s.aluStep .sbc (s.r8 r)).done

/-- `SUB (HL)` (`44_arith8.md` R382). -/
def execSubAtHl (s : State) : Result := s.aluAt .sub s.hl

/-- `SUB (IX+d)` (`44_arith8.md` R383). -/
def execSubAtIxD (d : Byte) (s : State) : Result := s.aluAt .sub (s.eaIx d)

/-- `SUB (IY+d)` (`44_arith8.md` R384). -/
def execSubAtIyD (d : Byte) (s : State) : Result := s.aluAt .sub (s.eaIy d)

/-- `SUB n` (`44_arith8.md` R385). -/
def execSubN (n : Byte) (s : State) : Result := (s.aluStep .sub n).done

/-- `SUB r` (`44_arith8.md` R386). -/
def execSubR (r : R8) (s : State) : Result := (s.aluStep .sub (s.r8 r)).done

/-- `XOR (HL)` (`44_arith8.md` R387). -/
def execXorAtHl (s : State) : Result := s.aluAt .xor s.hl

/-- `XOR (IX+d)` (`44_arith8.md` R388). -/
def execXorAtIxD (d : Byte) (s : State) : Result := s.aluAt .xor (s.eaIx d)

/-- `XOR (IY+d)` (`44_arith8.md` R389). -/
def execXorAtIyD (d : Byte) (s : State) : Result := s.aluAt .xor (s.eaIy d)

/-- `XOR n` (`44_arith8.md` R390). -/
def execXorN (n : Byte) (s : State) : Result := (s.aluStep .xor n).done

/-- `XOR r` (`44_arith8.md` R391). -/
def execXorR (r : R8) (s : State) : Result := (s.aluStep .xor (s.r8 r)).done

/-- `DEC (HL)` (`44_arith8.md` R392). -/
def execDecAtHl (s : State) : Result := s.decAt s.hl

/-- `DEC (IX+d)` (`44_arith8.md` R393). -/
def execDecAtIxD (d : Byte) (s : State) : Result := s.decAt (s.eaIx d)

/-- `DEC (IY+d)` (`44_arith8.md` R394). -/
def execDecAtIyD (d : Byte) (s : State) : Result := s.decAt (s.eaIy d)

/-- `DEC r` (`44_arith8.md` R395). -/
def execDecR (r : R8) (s : State) : Result :=
  let x := decFlags (s.r8 r)
  ((s.setDst8 r x.1).onFlags (putSZV x.2)).done

/-- `INC (HL)` (`44_arith8.md` R396). -/
def execIncAtHl (s : State) : Result := s.incAt s.hl

/-- `INC (IX+d)` (`44_arith8.md` R397). -/
def execIncAtIxD (d : Byte) (s : State) : Result := s.incAt (s.eaIx d)

/-- `INC (IY+d)` (`44_arith8.md` R398). -/
def execIncAtIyD (d : Byte) (s : State) : Result := s.incAt (s.eaIy d)

/-- `INC r` (`44_arith8.md` R399). -/
def execIncR (r : R8) (s : State) : Result :=
  let x := incFlags (s.r8 r)
  ((s.setDst8 r x.1).onFlags (putSZV x.2)).done

/-- `CPL` (`44_arith8.md` R400). -/
def execCpl (s : State) : Result := (s.setDst8 .a (s.a ^^^ 0xFF)).done

/-- `NEG`: C is the borrow of 0 - A (`44_arith8.md` R401). -/
def execNeg (s : State) : Result :=
  let x := subFlags 0 s.a false
  ((s.setDst8 .a x.1).onFlags (putFlags x.2)).done

/-- `RLA`: C only (`44_arith8.md` R402). -/
def execRla (s : State) : Result :=
  let x := shift8 .rl s.a s.carry
  ((s.setDst8 .a x.1).onFlags (putC x.2)).done

/-- `RLCA`: C only (`44_arith8.md` R403). -/
def execRlca (s : State) : Result :=
  let x := shift8 .rlc s.a s.carry
  ((s.setDst8 .a x.1).onFlags (putC x.2)).done

/-- `RRA`: C only (`44_arith8.md` R404). -/
def execRra (s : State) : Result :=
  let x := shift8 .rr s.a s.carry
  ((s.setDst8 .a x.1).onFlags (putC x.2)).done

/-- `RRCA`: C only (`44_arith8.md` R405). -/
def execRrca (s : State) : Result :=
  let x := shift8 .rrc s.a s.carry
  ((s.setDst8 .a x.1).onFlags (putC x.2)).done

end Sys2Proof.Machine
end

