-- ==== Sys2Proof/Machine/BitShift.lean ====
section
/-! DEFINITION. Bit operations, shifts and rotates (`45_bit_shift.md`). -/
namespace Sys2Proof.Machine

/-- `BIT b,(HL)`: privileged (`45_bit_shift.md` R421). -/
def execBitBAtHl (b : BitVec 3) (s : State) : Result := ((s.load8 s.hl).2.testBit b (s.load8 s.hl).1).doneHeld

/-- `BIT b,(IX+d)` (`45_bit_shift.md` R422). -/
def execBitBAtIxD (b : BitVec 3) (d : Byte) (s : State) : Result :=
  ((s.load8 (s.eaIx d)).2.testBit b (s.load8 (s.eaIx d)).1).done

/-- `BIT b,(IY+d)` (`45_bit_shift.md` R423). -/
def execBitBAtIyD (b : BitVec 3) (d : Byte) (s : State) : Result :=
  ((s.load8 (s.eaIy d)).2.testBit b (s.load8 (s.eaIy d)).1).done

/-- `BIT b,r` (`45_bit_shift.md` R424). -/
def execBitBR (b : BitVec 3) (r : R8) (s : State) : Result := (s.testBit b (s.r8 r)).done

/-- `RES b,(HL)` (`45_bit_shift.md` R425). -/
def execResBAtHl (b : BitVec 3) (s : State) : Result := s.modify s.hl fun v => (v &&& ~~~bitMask b, id)

/-- `RES b,(IX+d)` (`45_bit_shift.md` R426). -/
def execResBAtIxD (b : BitVec 3) (d : Byte) (s : State) : Result :=
  s.modify (s.eaIx d) fun v => (v &&& ~~~bitMask b, id)

/-- `RES b,(IY+d)` (`45_bit_shift.md` R427). -/
def execResBAtIyD (b : BitVec 3) (d : Byte) (s : State) : Result :=
  s.modify (s.eaIy d) fun v => (v &&& ~~~bitMask b, id)

/-- `RES b,r` (`45_bit_shift.md` R428). -/
def execResBR (b : BitVec 3) (r : R8) (s : State) : Result := (s.setDst8 r (s.r8 r &&& ~~~bitMask b)).done

/-- `SET b,(HL)` (`45_bit_shift.md` R429). -/
def execSetBAtHl (b : BitVec 3) (s : State) : Result := s.modify s.hl fun v => (v ||| bitMask b, id)

/-- `SET b,(IX+d)` (`45_bit_shift.md` R430). -/
def execSetBAtIxD (b : BitVec 3) (d : Byte) (s : State) : Result := s.modify (s.eaIx d) fun v => (v ||| bitMask b, id)

/-- `SET b,(IY+d)` (`45_bit_shift.md` R431). -/
def execSetBAtIyD (b : BitVec 3) (d : Byte) (s : State) : Result := s.modify (s.eaIy d) fun v => (v ||| bitMask b, id)

/-- `SET b,r` (`45_bit_shift.md` R432). -/
def execSetBR (b : BitVec 3) (r : R8) (s : State) : Result := (s.setDst8 r (s.r8 r ||| bitMask b)).done

/-- `RL (HL)` (`45_bit_shift.md` R434). -/
def execRlAtHl (s : State) : Result := s.shiftAt .rl s.hl

/-- `RL (IX+d)` (`45_bit_shift.md` R435). -/
def execRlAtIxD (d : Byte) (s : State) : Result := s.shiftAt .rl (s.eaIx d)

/-- `RL (IY+d)` (`45_bit_shift.md` R436). -/
def execRlAtIyD (d : Byte) (s : State) : Result := s.shiftAt .rl (s.eaIy d)

/-- `RL r` (`45_bit_shift.md` R437). -/
def execRlR (r : R8) (s : State) : Result := s.shiftReg .rl r

/-- `RLC (HL)` (`45_bit_shift.md` R438). -/
def execRlcAtHl (s : State) : Result := s.shiftAt .rlc s.hl

/-- `RLC (IX+d)` (`45_bit_shift.md` R439). -/
def execRlcAtIxD (d : Byte) (s : State) : Result := s.shiftAt .rlc (s.eaIx d)

/-- `RLC (IY+d)` (`45_bit_shift.md` R440). -/
def execRlcAtIyD (d : Byte) (s : State) : Result := s.shiftAt .rlc (s.eaIy d)

/-- `RLC r` (`45_bit_shift.md` R441). -/
def execRlcR (r : R8) (s : State) : Result := s.shiftReg .rlc r

/-- `RR (HL)` (`45_bit_shift.md` R442). -/
def execRrAtHl (s : State) : Result := s.shiftAt .rr s.hl

/-- `RR (IX+d)` (`45_bit_shift.md` R443). -/
def execRrAtIxD (d : Byte) (s : State) : Result := s.shiftAt .rr (s.eaIx d)

/-- `RR (IY+d)` (`45_bit_shift.md` R444). -/
def execRrAtIyD (d : Byte) (s : State) : Result := s.shiftAt .rr (s.eaIy d)

/-- `RR r` (`45_bit_shift.md` R445). -/
def execRrR (r : R8) (s : State) : Result := s.shiftReg .rr r

/-- `RRC (HL)` (`45_bit_shift.md` R446). -/
def execRrcAtHl (s : State) : Result := s.shiftAt .rrc s.hl

/-- `RRC (IX+d)` (`45_bit_shift.md` R447). -/
def execRrcAtIxD (d : Byte) (s : State) : Result := s.shiftAt .rrc (s.eaIx d)

/-- `RRC (IY+d)` (`45_bit_shift.md` R448). -/
def execRrcAtIyD (d : Byte) (s : State) : Result := s.shiftAt .rrc (s.eaIy d)

/-- `RRC r` (`45_bit_shift.md` R449). -/
def execRrcR (r : R8) (s : State) : Result := s.shiftReg .rrc r

/-- `SLA (HL)` (`45_bit_shift.md` R450). -/
def execSlaAtHl (s : State) : Result := s.shiftAt .sla s.hl

/-- `SLA (IX+d)` (`45_bit_shift.md` R451). -/
def execSlaAtIxD (d : Byte) (s : State) : Result := s.shiftAt .sla (s.eaIx d)

/-- `SLA (IY+d)` (`45_bit_shift.md` R452). -/
def execSlaAtIyD (d : Byte) (s : State) : Result := s.shiftAt .sla (s.eaIy d)

/-- `SLA r` (`45_bit_shift.md` R453). -/
def execSlaR (r : R8) (s : State) : Result := s.shiftReg .sla r

/-- `SRA (HL)` (`45_bit_shift.md` R454). -/
def execSraAtHl (s : State) : Result := s.shiftAt .sra s.hl

/-- `SRA (IX+d)` (`45_bit_shift.md` R455). -/
def execSraAtIxD (d : Byte) (s : State) : Result := s.shiftAt .sra (s.eaIx d)

/-- `SRA (IY+d)` (`45_bit_shift.md` R456). -/
def execSraAtIyD (d : Byte) (s : State) : Result := s.shiftAt .sra (s.eaIy d)

/-- `SRA r` (`45_bit_shift.md` R457). -/
def execSraR (r : R8) (s : State) : Result := s.shiftReg .sra r

/-- `SRL (HL)` (`45_bit_shift.md` R458). -/
def execSrlAtHl (s : State) : Result := s.shiftAt .srl s.hl

/-- `SRL (IX+d)` (`45_bit_shift.md` R459). -/
def execSrlAtIxD (d : Byte) (s : State) : Result := s.shiftAt .srl (s.eaIx d)

/-- `SRL (IY+d)` (`45_bit_shift.md` R460). -/
def execSrlAtIyD (d : Byte) (s : State) : Result := s.shiftAt .srl (s.eaIy d)

/-- `SRL r` (`45_bit_shift.md` R461). -/
def execSrlR (r : R8) (s : State) : Result := s.shiftReg .srl r

end Sys2Proof.Machine
end

