-- ==== Sys2Proof/Machine/Block.lean ====
section
/-! DEFINITION. The prefixes and the block moves (`46_prefix_block.md`). -/
namespace Sys2Proof.Machine

/-- `ALTD`: the latch is set, and stays for the next instruction (`46_prefix_block.md` R473). -/
def execAltd (s : State) : Result := .next { s with cpu := { s.cpu with altd := true } }

/-- `IOI` (`46_prefix_block.md` R476). -/
def execIoi (s : State) : Result := .next { s with cpu := { s.cpu with iospace := .internal } }

/-- `IOE` (`46_prefix_block.md` R478). -/
def execIoe (s : State) : Result := .next { s with cpu := { s.cpu with iospace := .external } }

/-- `LDD` (`46_prefix_block.md` R480). -/
def execLdd (s : State) : Result := andThen (s.blockOut .down .down) State.done

/-- `LDDR`: one iteration, repeated while BC is not 0 (`46_prefix_block.md` R481, R486). -/
def execLddr (s : State) : Result := andThen (s.blockOut .down .down) fun t => t.repeatWhileBc.done

/-- `LDI` (`46_prefix_block.md` R482). -/
def execLdi (s : State) : Result := andThen (s.blockOut .up .up) State.done

/-- `LDIR`: one iteration, repeated while BC is not 0 (`46_prefix_block.md` R483, R486). -/
def execLdir (s : State) : Result := andThen (s.blockOut .up .up) fun t => t.repeatWhileBc.done

end Sys2Proof.Machine
end

