-- ==== Sys2Proof/Machine/Control.lean ====
section
/-! DEFINITION. Jumps, calls, returns and restarts (`47_control.md`). -/
namespace Sys2Proof.Machine

/-- `CALL mn` (`47_control.md` R501). -/
def execCallMn (mn : Word) (s : State) : Result := ((s.push16 s.cpu.pc).setPc mn).done

/-- `DJNZ e`: `dst(B)` gets B - 1, and the branch tests that value (`47_control.md` R502). -/
def execDjnzE (e : Byte) (s : State) : Result :=
  let t := s.r8 .b - 1
  (if t = 0 then s.setDst8 .b t else (s.setDst8 .b t).jumpBy e).done

/-- `JP (HL)` (`47_control.md` R503). -/
def execJpAtHl (s : State) : Result := (s.setPc s.hl).done

/-- `JP (IX)` (`47_control.md` R504). -/
def execJpAtIx (s : State) : Result := (s.setPc s.cpu.ix).done

/-- `JP (IY)` (`47_control.md` R505). -/
def execJpAtIy (s : State) : Result := (s.setPc s.cpu.iy).done

/-- `JP f,mn` (`47_control.md` R506). -/
def execJpFMn (f : Cond) (mn : Word) (s : State) : Result := (if condHolds f s.f then s.setPc mn else s).done

/-- `JP mn` (`47_control.md` R507). -/
def execJpMn (mn : Word) (s : State) : Result := (s.setPc mn).done

/-- `JR cc,e` (`47_control.md` R508). -/
def execJrCcE (cc : CC) (e : Byte) (s : State) : Result := (if ccHolds cc s.f then s.jumpBy e else s).done

/-- `JR e` (`47_control.md` R509). -/
def execJrE (e : Byte) (s : State) : Result := (s.jumpBy e).done

/-- `LCALL x,mn` (`47_control.md` R510). -/
def execLcallXMn (x : Byte) (mn : Word) (s : State) : Result := ((s.pushXpcPc.setXpc x).setPc mn).done

/-- `LJP x,mn` (`47_control.md` R511). -/
def execLjpXMn (x : Byte) (mn : Word) (s : State) : Result := ((s.setXpc x).setPc mn).done

/-- `LRET` (`47_control.md` R512). -/
def execLret (s : State) : Result := s.popPcXpc.done

/-- `RET` (`47_control.md` R513). -/
def execRet (s : State) : Result := s.popPc.done

/-- `RET f` (`47_control.md` R514). -/
def execRetF (f : Cond) (s : State) : Result := (if condHolds f s.f then s.popPc else s).done

/-- `RETI`: privileged (`47_control.md` R515; `60_exceptions.md` R658). -/
def execReti (s : State) : Result := s.unlessPriorityRefused "RETI" s.popIpPc.doneHeld

/-- The offset of a restart in the internal vector table (`47_control.md` R520). -/
def rstOffset : RstV → Byte
  | .v10 => 0x20 | .v18 => 0x30 | .v20 => 0x40 | .v28 => 0x50 | .v38 => 0x70

/-- `RST v`: a software trap; RST 28 is a NOP while BDCR[7] = 1 (`47_control.md` R520, `21_memory_interface.md` R98). -/
def execRstV (v : RstV) (s : State) : Result :=
  (if v = .v28 ∧ bit s.dev.mmu.bdcr 7 = true then s else s.trap (rstOffset v)).done

end Sys2Proof.Machine
end

