-- ==== Sys2Proof/Machine/LoadImm.lean ====
section
/-! DEFINITION. Immediate and direct loads (`40_load_immediate_direct.md`). -/
namespace Sys2Proof.Machine

/-- `LD IX,mn` (`40_load_immediate_direct.md` R161). -/
def execLdIxMn (mn : Word) (s : State) : Result := (s.setIx mn).done

/-- `LD IY,mn` (`40_load_immediate_direct.md` R162). -/
def execLdIyMn (mn : Word) (s : State) : Result := (s.setIy mn).done

/-- `LD dd,mn` (`40_load_immediate_direct.md` R163). -/
def execLdDdMn (dd : SS) (mn : Word) (s : State) : Result := (s.setDstSs dd mn).done

/-- `LD r,n` (`40_load_immediate_direct.md` R164). -/
def execLdRN (r : R8) (n : Byte) (s : State) : Result := (s.setDst8 r n).done

/-- `LD (mn),A` (`40_load_immediate_direct.md` R165). -/
def execLdAtMnA (mn : Word) (s : State) : Result := s.storeByte mn s.a

/-- `LD A,(mn)` (`40_load_immediate_direct.md` R166). -/
def execLdAAtMn (mn : Word) (s : State) : Result := s.loadByte .a mn

/-- `LD (mn),HL` (`40_load_immediate_direct.md` R167). -/
def execLdAtMnHl (mn : Word) (s : State) : Result := s.storeWord mn s.hl

/-- `LD (mn),IX` (`40_load_immediate_direct.md` R168). -/
def execLdAtMnIx (mn : Word) (s : State) : Result := s.storeWord mn s.cpu.ix

/-- `LD (mn),IY` (`40_load_immediate_direct.md` R169). -/
def execLdAtMnIy (mn : Word) (s : State) : Result := s.storeWord mn s.cpu.iy

/-- `LD (mn),ss` (`40_load_immediate_direct.md` R170). -/
def execLdAtMnSs (mn : Word) (ss : SS) (s : State) : Result := s.storeWord mn (s.ss ss)

/-- `LD HL,(mn)` (`40_load_immediate_direct.md` R171). -/
def execLdHlAtMn (mn : Word) (s : State) : Result := s.loadWord .hl mn

/-- `LD IX,(mn)` (`40_load_immediate_direct.md` R172). -/
def execLdIxAtMn (mn : Word) (s : State) : Result := ((s.load16 mn).2.setIx (s.load16 mn).1).done

/-- `LD IY,(mn)` (`40_load_immediate_direct.md` R173). -/
def execLdIyAtMn (mn : Word) (s : State) : Result := ((s.load16 mn).2.setIy (s.load16 mn).1).done

/-- `LD dd,(mn)` (`40_load_immediate_direct.md` R174). -/
def execLdDdAtMn (dd : SS) (mn : Word) (s : State) : Result := s.loadWord dd mn

end Sys2Proof.Machine
end

