-- ==== Sys2Proof/Machine/LoadIndexed.lean ====
section
/-! DEFINITION. Indexed, indirect and 20-bit loads and stores (`41_load_indexed.md`). -/
namespace Sys2Proof.Machine

/-- `LD A,(BC)` (`41_load_indexed.md` R191). -/
def execLdAAtBc (s : State) : Result := s.loadByte .a s.bc

/-- `LD A,(DE)` (`41_load_indexed.md` R192). -/
def execLdAAtDe (s : State) : Result := s.loadByte .a s.de

/-- `LD (BC),A` (`41_load_indexed.md` R193). -/
def execLdAtBcA (s : State) : Result := s.storeByte s.bc s.a

/-- `LD (DE),A` (`41_load_indexed.md` R194). -/
def execLdAtDeA (s : State) : Result := s.storeByte s.de s.a

/-- `LD (HL),n` (`41_load_indexed.md` R195). -/
def execLdAtHlN (n : Byte) (s : State) : Result := s.storeByte s.hl n

/-- `LD (HL),r` (`41_load_indexed.md` R196). -/
def execLdAtHlR (r : R8) (s : State) : Result := s.storeByte s.hl (s.r8 r)

/-- `LD r,(HL)` (`41_load_indexed.md` R197). -/
def execLdRAtHl (r : R8) (s : State) : Result := s.loadByte r s.hl

/-- `LD (IX+d),n` (`41_load_indexed.md` R198). -/
def execLdAtIxDN (d n : Byte) (s : State) : Result := s.storeByte (s.eaIx d) n

/-- `LD (IX+d),r` (`41_load_indexed.md` R199). -/
def execLdAtIxDR (d : Byte) (r : R8) (s : State) : Result := s.storeByte (s.eaIx d) (s.r8 r)

/-- `LD r,(IX+d)` (`41_load_indexed.md` R200). -/
def execLdRAtIxD (r : R8) (d : Byte) (s : State) : Result := s.loadByte r (s.eaIx d)

/-- `LD (IY+d),n` (`41_load_indexed.md` R201). -/
def execLdAtIyDN (d n : Byte) (s : State) : Result := s.storeByte (s.eaIy d) n

/-- `LD (IY+d),r` (`41_load_indexed.md` R202). -/
def execLdAtIyDR (d : Byte) (r : R8) (s : State) : Result := s.storeByte (s.eaIy d) (s.r8 r)

/-- `LD r,(IY+d)` (`41_load_indexed.md` R203). -/
def execLdRAtIyD (r : R8) (d : Byte) (s : State) : Result := s.loadByte r (s.eaIy d)

/-- `LD (HL+d),HL` (`41_load_indexed.md` R204). -/
def execLdAtHlDHl (d : Byte) (s : State) : Result := s.storeWord (s.eaHl d) s.hl

/-- `LD HL,(HL+d)`, addressed by the old HL (`41_load_indexed.md` R205). -/
def execLdHlAtHlD (d : Byte) (s : State) : Result := s.loadWord .hl (s.eaHl d)

/-- `LD (SP+n),HL`: always memory (`41_load_indexed.md` R206). -/
def execLdAtSpNHl (n : Byte) (s : State) : Result := (s.stackWrite16 (s.eaSp n) s.hl).done

/-- `LD (SP+n),IX` (`41_load_indexed.md` R207). -/
def execLdAtSpNIx (n : Byte) (s : State) : Result := (s.stackWrite16 (s.eaSp n) s.cpu.ix).done

/-- `LD (SP+n),IY` (`41_load_indexed.md` R208). -/
def execLdAtSpNIy (n : Byte) (s : State) : Result := (s.stackWrite16 (s.eaSp n) s.cpu.iy).done

/-- `LD HL,(SP+n)` (`41_load_indexed.md` R209). -/
def execLdHlAtSpN (n : Byte) (s : State) : Result :=
  let r := s.stackRead16 (s.eaSp n)
  (r.2.setDstHl r.1).done

/-- `LD IX,(SP+n)` (`41_load_indexed.md` R210). -/
def execLdIxAtSpN (n : Byte) (s : State) : Result :=
  let r := s.stackRead16 (s.eaSp n)
  (r.2.setIx r.1).done

/-- `LD IY,(SP+n)` (`41_load_indexed.md` R211). -/
def execLdIyAtSpN (n : Byte) (s : State) : Result :=
  let r := s.stackRead16 (s.eaSp n)
  (r.2.setIy r.1).done

/-- `LD (IX+d),HL` (`41_load_indexed.md` R212). -/
def execLdAtIxDHl (d : Byte) (s : State) : Result := s.storeWord (s.eaIx d) s.hl

/-- `LD HL,(IX+d)` (`41_load_indexed.md` R213). -/
def execLdHlAtIxD (d : Byte) (s : State) : Result := s.loadWord .hl (s.eaIx d)

/-- `LD (IY+d),HL` (`41_load_indexed.md` R214). -/
def execLdAtIyDHl (d : Byte) (s : State) : Result := s.storeWord (s.eaIy d) s.hl

/-- `LD HL,(IY+d)` (`41_load_indexed.md` R215). -/
def execLdHlAtIyD (d : Byte) (s : State) : Result := s.loadWord .hl (s.eaIy d)

/-- `LDP (HL),HL` (`41_load_indexed.md` R217). -/
def execLdpAtHlHl (s : State) : Result := (s.ldpWrite s.hl s.hl).done

/-- `LDP (IX),HL` (`41_load_indexed.md` R218). -/
def execLdpAtIxHl (s : State) : Result := (s.ldpWrite s.cpu.ix s.hl).done

/-- `LDP (IY),HL` (`41_load_indexed.md` R219). -/
def execLdpAtIyHl (s : State) : Result := (s.ldpWrite s.cpu.iy s.hl).done

/-- `LDP HL,(HL)`: ALTD has no effect (`41_load_indexed.md` R220). -/
def execLdpHlAtHl (s : State) : Result :=
  let r := s.ldpRead s.hl
  (r.2.onMain fun x => x.setHl r.1).done

/-- `LDP HL,(IX)`: ALTD has no effect (`41_load_indexed.md` R221). -/
def execLdpHlAtIx (s : State) : Result :=
  let r := s.ldpRead s.cpu.ix
  (r.2.onMain fun x => x.setHl r.1).done

/-- `LDP HL,(IY)`: ALTD has no effect (`41_load_indexed.md` R222). -/
def execLdpHlAtIy (s : State) : Result :=
  let r := s.ldpRead s.cpu.iy
  (r.2.onMain fun x => x.setHl r.1).done

/-- `LDP (mn),HL` (`41_load_indexed.md` R223). -/
def execLdpAtMnHl (mn : Word) (s : State) : Result := (s.ldpWrite mn s.hl).done

/-- `LDP (mn),IX` (`41_load_indexed.md` R224). -/
def execLdpAtMnIx (mn : Word) (s : State) : Result := (s.ldpWrite mn s.cpu.ix).done

/-- `LDP (mn),IY` (`41_load_indexed.md` R225). -/
def execLdpAtMnIy (mn : Word) (s : State) : Result := (s.ldpWrite mn s.cpu.iy).done

/-- `LDP HL,(mn)`: ALTD has no effect (`41_load_indexed.md` R226). -/
def execLdpHlAtMn (mn : Word) (s : State) : Result :=
  let r := s.ldpRead mn
  (r.2.onMain fun x => x.setHl r.1).done

/-- `LDP IX,(mn)` (`41_load_indexed.md` R227). -/
def execLdpIxAtMn (mn : Word) (s : State) : Result :=
  let r := s.ldpRead mn
  (r.2.setIx r.1).done

/-- `LDP IY,(mn)` (`41_load_indexed.md` R228). -/
def execLdpIyAtMn (mn : Word) (s : State) : Result :=
  let r := s.ldpRead mn
  (r.2.setIy r.1).done

end Sys2Proof.Machine
end

