-- ==== Sys2Proof/Machine/Misc.lean ====
section
/-! DEFINITION. Flag instructions, NOP and the interrupt priority (`48_misc_privileged.md`). -/
namespace Sys2Proof.Machine

/-- `CCF`: the complement of the main carry (`48_misc_privileged.md` R530). -/
def execCcf (s : State) : Result := (s.onFlags (putC (!s.carry))).done

/-- `IPSET 0`: privileged (`48_misc_privileged.md` R531). -/
def execIpset0 (s : State) : Result := (s.setIp (pushField s.cpu.ip 0)).doneHeld

/-- `IPSET 1`: privileged (`48_misc_privileged.md` R532). -/
def execIpset1 (s : State) : Result := (s.setIp (pushField s.cpu.ip 1)).doneHeld

/-- `IPSET 2`: privileged (`48_misc_privileged.md` R533). -/
def execIpset2 (s : State) : Result := (s.setIp (pushField s.cpu.ip 2)).doneHeld

/-- `IPSET 3`: privileged (`48_misc_privileged.md` R534; `60_exceptions.md` R658). -/
def execIpset3 (s : State) : Result := s.unlessPriorityRefused "IPSET 3" (s.setIp (pushField s.cpu.ip 3)).doneHeld

/-- `IPRES`: privileged (`48_misc_privileged.md` R535). -/
def execIpres (s : State) : Result := (s.setIp (popField s.cpu.ip)).doneHeld

/-- `NOP` (`48_misc_privileged.md` R536). -/
def execNop (s : State) : Result := s.done

/-- `SCF` (`48_misc_privileged.md` R537). -/
def execScf (s : State) : Result := (s.onFlags (putC true)).done

end Sys2Proof.Machine
end

