-- ==== Sys2Proof/Machine/Move.lean ====
section
/-! DEFINITION. Moves, exchanges and the stack (`42_move_exchange_stack.md`). -/
namespace Sys2Proof.Machine

/-- `LD r,g` (`42_move_exchange_stack.md` R240). -/
def execLdRG (r g : R8) (s : State) : Result := (s.setDst8 r (s.r8 g)).done

/-- `LD A,EIR`: S and Z from the value (`42_move_exchange_stack.md` R241). -/
def execLdAEir (s : State) : Result :=
  ((s.setDst8 .a s.cpu.eir).onFlags (putSZ s.cpu.eir.msb (decide (s.cpu.eir = 0)))).done

/-- `LD A,IIR`: S and Z from the value (`42_move_exchange_stack.md` R242). -/
def execLdAIir (s : State) : Result :=
  ((s.setDst8 .a s.cpu.iir).onFlags (putSZ s.cpu.iir.msb (decide (s.cpu.iir = 0)))).done

/-- `LD A,XPC`: privileged (`42_move_exchange_stack.md` R243). -/
def execLdAXpc (s : State) : Result := (s.setDst8 .a s.cpu.xpc).doneHeld

/-- `LD EIR,A` (`42_move_exchange_stack.md` R244). -/
def execLdEirA (s : State) : Result := State.done { s with cpu := { s.cpu with eir := s.a } }

/-- `LD IIR,A` (`42_move_exchange_stack.md` R245). -/
def execLdIirA (s : State) : Result := State.done { s with cpu := { s.cpu with iir := s.a } }

/-- `LD XPC,A`: privileged (`42_move_exchange_stack.md` R246). -/
def execLdXpcA (s : State) : Result := (s.setXpc s.a).doneHeld

/-- `LD HL,IX` (`42_move_exchange_stack.md` R247). -/
def execLdHlIx (s : State) : Result := (s.setDstHl s.cpu.ix).done

/-- `LD HL,IY` (`42_move_exchange_stack.md` R248). -/
def execLdHlIy (s : State) : Result := (s.setDstHl s.cpu.iy).done

/-- `LD IX,HL` (`42_move_exchange_stack.md` R249). -/
def execLdIxHl (s : State) : Result := (s.setIx s.hl).done

/-- `LD IY,HL` (`42_move_exchange_stack.md` R250). -/
def execLdIyHl (s : State) : Result := (s.setIy s.hl).done

/-- `LD SP,HL`: privileged (`42_move_exchange_stack.md` R251). -/
def execLdSpHl (s : State) : Result := (s.setSp s.hl).doneHeld

/-- `LD SP,IX`: privileged (`42_move_exchange_stack.md` R252). -/
def execLdSpIx (s : State) : Result := (s.setSp s.cpu.ix).doneHeld

/-- `LD SP,IY`: privileged (`42_move_exchange_stack.md` R253). -/
def execLdSpIy (s : State) : Result := (s.setSp s.cpu.iy).doneHeld

/-- `LD dd',BC`: the alternate pair named is written (`42_move_exchange_stack.md` R262). -/
def execLdDdaBc (dd : DDa) (s : State) : Result := (s.onAlt fun x => x.setDda dd s.bc).done

/-- `LD dd',DE` (`42_move_exchange_stack.md` R263). -/
def execLdDdaDe (dd : DDa) (s : State) : Result := (s.onAlt fun x => x.setDda dd s.de).done

/-- `EX (SP),HL`: the main HL goes to the stack, the word read to `dst(HL)` (`42_move_exchange_stack.md` R265). -/
def execExAtSpHl (s : State) : Result :=
  let r := s.stackRead16 s.cpu.sp
  ((r.2.stackWrite16 s.cpu.sp s.hl).setDstHl r.1).done

/-- `EX (SP),IX` (`42_move_exchange_stack.md` R266). -/
def execExAtSpIx (s : State) : Result :=
  let r := s.stackRead16 s.cpu.sp
  ((r.2.stackWrite16 s.cpu.sp s.cpu.ix).setIx r.1).done

/-- `EX (SP),IY` (`42_move_exchange_stack.md` R267). -/
def execExAtSpIy (s : State) : Result :=
  let r := s.stackRead16 s.cpu.sp
  ((r.2.stackWrite16 s.cpu.sp s.cpu.iy).setIy r.1).done

/-- `EX AF,AF'`: all eight bits of F (`42_move_exchange_stack.md` R270). -/
def execExAfAfa (s : State) : Result :=
  ((s.onMain fun x => x.setAf s.cpu.alt.af).onAlt fun x => x.setAf s.cpu.main.af).done

/-- The exchange of DE' and HL' (`42_move_exchange_stack.md` R272). -/
def execExDeaHla (s : State) : Result := (s.onAlt fun x => (x.setDe x.hl).setHl x.de).done

/-- `EX DE',HL`; under ALTD `EX DE',HL'` (`42_move_exchange_stack.md` R271). -/
def execExDeaHl (s : State) : Result :=
  if s.cpu.altd then (s.onAlt fun x => (x.setDe x.hl).setHl x.de).done
  else ((s.onMain fun x => x.setHl s.cpu.alt.de).onAlt fun x => x.setDe s.hl).done

/-- `EX DE,HL`; under ALTD `EX DE,HL'` (`42_move_exchange_stack.md` R273). -/
def execExDeHl (s : State) : Result :=
  if s.cpu.altd then ((s.onMain fun x => x.setDe s.cpu.alt.hl).onAlt fun x => x.setHl s.de).done
  else (s.onMain fun x => (x.setDe x.hl).setHl x.de).done

/-- `EX DE,HL'` (`42_move_exchange_stack.md` R274). -/
def execExDeHla (s : State) : Result := ((s.onMain fun x => x.setDe s.cpu.alt.hl).onAlt fun x => x.setHl s.de).done

/-- `EXX` (`42_move_exchange_stack.md` R275). -/
def execExx (s : State) : Result :=
  ((s.onMain fun x => ((x.setBc s.cpu.alt.bc).setDe s.cpu.alt.de).setHl s.cpu.alt.hl).onAlt fun x =>
    ((x.setBc s.bc).setDe s.de).setHl s.hl).done

/-- `POP IP`: privileged (`42_move_exchange_stack.md` R281; `60_exceptions.md` R658). -/
def execPopIp (s : State) : Result :=
  let r := s.pop8
  s.unlessPriorityRefused "POP IP" (r.2.setIp r.1).doneHeld

/-- `POP IX` (`42_move_exchange_stack.md` R282). -/
def execPopIx (s : State) : Result :=
  let r := s.pop16
  (r.2.setIx r.1).done

/-- `POP IY` (`42_move_exchange_stack.md` R283). -/
def execPopIy (s : State) : Result :=
  let r := s.pop16
  (r.2.setIy r.1).done

/-- `POP zz` (`42_move_exchange_stack.md` R284). -/
def execPopZz (zz : ZZ) (s : State) : Result :=
  let r := s.pop16
  (r.2.setDstZz zz r.1).done

/-- `PUSH IP` (`42_move_exchange_stack.md` R285). -/
def execPushIp (s : State) : Result := (s.push8 s.cpu.ip).done

/-- `PUSH IX` (`42_move_exchange_stack.md` R286). -/
def execPushIx (s : State) : Result := (s.push16 s.cpu.ix).done

/-- `PUSH IY` (`42_move_exchange_stack.md` R287). -/
def execPushIy (s : State) : Result := (s.push16 s.cpu.iy).done

/-- `PUSH zz` (`42_move_exchange_stack.md` R288). -/
def execPushZz (zz : ZZ) (s : State) : Result := (s.push16 (s.zz zz)).done

/-- The operand of `ADD SP,d`: signed, or unsigned by the parameter `ADD_SP_D` (`42_move_exchange_stack.md` R290, D18, log 10). -/
def spOffset (cfg : Params) (d : Byte) : Word := if cfg.addSpSigned then sext8 d else zext8 d

/-- `ADD SP,d`: C is the carry out of bit 15 (`42_move_exchange_stack.md` R290). -/
def execAddSpD (d : Byte) (s : State) : Result :=
  let r := addFlags s.cpu.sp (spOffset s.cfg d) false
  ((s.setSp r.1).onFlags (putC r.2.c)).done

end Sys2Proof.Machine
end

