-- ==== Sys2Proof/Machine/R3000A.lean ====
section
/-! DEFINITION. The instructions of REV = R3000A (`49_r3000a_opcodes.md`). -/
namespace Sys2Proof.Machine

/-- DE' of the machine: the running carry word of UMA and UMS (`49_r3000a_opcodes.md` R551). -/
def State.dea (s : State) : Word := s.cpu.alt.de

/-- The sum of UMA: `(IX) + (IY) * DE + DE' + CY` (`49_r3000a_opcodes.md` R551). -/
def umaSum (x y : Byte) (de dea : Word) (c : Bool) : Nat := x.toNat + y.toNat * de.toNat + dea.toNat + c.toNat

/-- The difference of UMS: `(IX) - ((IY) * DE + DE' + CY)` (`49_r3000a_opcodes.md` R552). -/
def umsDiff (x y : Byte) (de dea : Word) (c : Bool) : Int := x.toNat - (y.toNat * de.toNat + dea.toNat + c.toNat : Nat)

/-- `CY` and `DE'` as one 17-bit number after UMA (`49_r3000a_opcodes.md` R551). -/
def umaCarry (t : Nat) : BitVec 17 := BitVec.ofNat 17 (t / 256)

/-- `CY` and `DE'` as one 17-bit number after UMS, in the form the parameter says (`49_r3000a_opcodes.md` R552, D27, log 11). -/
def umsCarry (form : UmsForm) (t : Int) : BitVec 17 :=
  match form with
  | .literal => BitVec.ofInt 17 (t / 256)
  | .magnitude => BitVec.ofInt 17 (-(t / 256))

/-- What follows the write of a multiply-accumulate iteration: DE' and the main carry, the counters, and the repetition
(`49_r3000a_opcodes.md` R551). -/
def State.umEnd (s : State) (q : BitVec 17) : State :=
  let t := (s.onAlt fun x => x.setDe (q.extractLsb' 0 16)).onMain fun x =>
    { (x.setBc (x.bc - 1)).setHl (x.hl + 1) with f := putC (bit q 16) x.f }
  ((t.setIx (s.cpu.ix + 1)).setIy (s.cpu.iy + 1)).repeatWhileBc

/-- The two bytes a multiply-accumulate iteration reads, at IX and IY (`49_r3000a_opcodes.md` R551). -/
def State.umRead (s : State) : Byte × Byte × State :=
  let x := s.memRead s.cpu.ix
  let y := x.2.memRead s.cpu.iy
  (x.1, y.1, y.2)

/-- `UMA`: one iteration, repeated while BC is not 0 (`49_r3000a_opcodes.md` R551). -/
def execUma (s : State) : Result :=
  let r := s.umRead
  let t := umaSum r.1 r.2.1 s.de s.dea s.carry
  ((r.2.2.memWrite s.hl (BitVec.ofNat 8 t)).umEnd (umaCarry t)).done

/-- `UMS`: one iteration, repeated while BC is not 0 (`49_r3000a_opcodes.md` R552). -/
def execUms (s : State) : Result :=
  let r := s.umRead
  let t := umsDiff r.1 r.2.1 s.de s.dea s.carry
  ((r.2.2.memWrite s.hl (BitVec.ofInt 8 t)).umEnd (umsCarry s.cfg.umsForm t)).done

/-- `LDDSR`: HL goes down, DE stays; the prefix moves the write (`49_r3000a_opcodes.md` R554). -/
def execLddsr (s : State) : Result := andThen (s.blockOut .down .fixed) fun t => t.repeatWhileBc.done

/-- `LDISR`: HL goes up, DE stays; the prefix moves the write (`49_r3000a_opcodes.md` R555). -/
def execLdisr (s : State) : Result := andThen (s.blockOut .up .fixed) fun t => t.repeatWhileBc.done

/-- `LSDR`: both go down; the prefix moves the read (`49_r3000a_opcodes.md` R556). -/
def execLsdr (s : State) : Result := andThen (s.blockIn .down .down) fun t => t.repeatWhileBc.done

/-- `LSIR`: both go up; the prefix moves the read (`49_r3000a_opcodes.md` R557). -/
def execLsir (s : State) : Result := andThen (s.blockIn .up .up) fun t => t.repeatWhileBc.done

/-- `LSDDR`: HL stays, DE goes down; the prefix moves the read (`49_r3000a_opcodes.md` R558). -/
def execLsddr (s : State) : Result := andThen (s.blockIn .fixed .down) fun t => t.repeatWhileBc.done

/-- `LSIDR`: HL stays, DE goes up; the prefix moves the read (`49_r3000a_opcodes.md` R559). -/
def execLsidr (s : State) : Result := andThen (s.blockIn .fixed .up) fun t => t.repeatWhileBc.done

/-- `SETUSR`: privileged (`49_r3000a_opcodes.md` R560). -/
def execSetusr (s : State) : Result := (s.setSu (pushField s.cpu.su 1)).doneHeld

/-- `PUSH SU`: privileged (`49_r3000a_opcodes.md` R561). -/
def execPushSu (s : State) : Result := (s.push8 s.cpu.su).doneHeld

/-- `POP SU`: privileged (`49_r3000a_opcodes.md` R562; `60_exceptions.md` R658). -/
def execPopSu (s : State) : Result :=
  let r := s.pop8
  s.unlessPriorityRefused "POP SU" (r.2.setSu r.1).doneHeld

/-- `SURES`: privileged (`49_r3000a_opcodes.md` R563; `60_exceptions.md` R658). -/
def execSures (s : State) : Result := s.unlessPriorityRefused "SURES" (s.setSu (popField s.cpu.su)).doneHeld

/-- The System Mode Violation requested (`49_r3000a_opcodes.md` R564, `60_exceptions.md` R657). -/
def State.requestSystemMode (s : State) : State := { s with dev := { s.dev with viol := { s.dev.viol with systemMode := true } } }

/-- `IDET`: `LD E',E` under ALTD; else `LD E,E` and, in User mode, the request (`49_r3000a_opcodes.md` R564, `60_exceptions.md` R657). -/
def execIdet (s : State) : Result :=
  if s.cpu.altd then (s.onAlt fun x => { x with e := s.cpu.main.e }).done
  else if s.userMode then s.requestSystemMode.done
  else s.done

/-- `RDMODE`: the main carry is SU[0]; privileged (`49_r3000a_opcodes.md` R565). -/
def execRdmode (s : State) : Result := (s.onMainFlags (putC (bit s.cpu.su 0))).doneHeld

/-- `SYSCALL`: a software trap (`49_r3000a_opcodes.md` R566, `60_exceptions.md` R621). -/
def execSyscall (s : State) : Result := (s.trap 0x60).done

end Sys2Proof.Machine
end

