-- ==== Sys2Proof/Machine/Dispatch.lean ====
section
/-! DEFINITION. The meaning of every instruction: one arm per constructor, one call each. -/
namespace Sys2Proof.Machine

def exec (i : Instr) (s : State) : Host.Outcome State Fault Refusal :=
  match i with
  | .ldIxMn mn => Sys2Proof.Machine.execLdIxMn mn s
  | .ldIyMn mn => Sys2Proof.Machine.execLdIyMn mn s
  | .ldDdMn dd mn => Sys2Proof.Machine.execLdDdMn dd mn s
  | .ldRN r n => Sys2Proof.Machine.execLdRN r n s
  | .ldAtMnA mn => Sys2Proof.Machine.execLdAtMnA mn s
  | .ldAAtMn mn => Sys2Proof.Machine.execLdAAtMn mn s
  | .ldAtMnHl mn => Sys2Proof.Machine.execLdAtMnHl mn s
  | .ldAtMnIx mn => Sys2Proof.Machine.execLdAtMnIx mn s
  | .ldAtMnIy mn => Sys2Proof.Machine.execLdAtMnIy mn s
  | .ldAtMnSs mn ss => Sys2Proof.Machine.execLdAtMnSs mn ss s
  | .ldHlAtMn mn => Sys2Proof.Machine.execLdHlAtMn mn s
  | .ldIxAtMn mn => Sys2Proof.Machine.execLdIxAtMn mn s
  | .ldIyAtMn mn => Sys2Proof.Machine.execLdIyAtMn mn s
  | .ldDdAtMn dd mn => Sys2Proof.Machine.execLdDdAtMn dd mn s
  | .ldAAtBc => Sys2Proof.Machine.execLdAAtBc s
  | .ldAAtDe => Sys2Proof.Machine.execLdAAtDe s
  | .ldAtBcA => Sys2Proof.Machine.execLdAtBcA s
  | .ldAtDeA => Sys2Proof.Machine.execLdAtDeA s
  | .ldAtHlN n => Sys2Proof.Machine.execLdAtHlN n s
  | .ldAtHlR r => Sys2Proof.Machine.execLdAtHlR r s
  | .ldRAtHl r => Sys2Proof.Machine.execLdRAtHl r s
  | .ldAtIxDN d n => Sys2Proof.Machine.execLdAtIxDN d n s
  | .ldAtIxDR d r => Sys2Proof.Machine.execLdAtIxDR d r s
  | .ldRAtIxD r d => Sys2Proof.Machine.execLdRAtIxD r d s
  | .ldAtIyDN d n => Sys2Proof.Machine.execLdAtIyDN d n s
  | .ldAtIyDR d r => Sys2Proof.Machine.execLdAtIyDR d r s
  | .ldRAtIyD r d => Sys2Proof.Machine.execLdRAtIyD r d s
  | .ldAtHlDHl d => Sys2Proof.Machine.execLdAtHlDHl d s
  | .ldHlAtHlD d => Sys2Proof.Machine.execLdHlAtHlD d s
  | .ldAtSpNHl n => Sys2Proof.Machine.execLdAtSpNHl n s
  | .ldAtSpNIx n => Sys2Proof.Machine.execLdAtSpNIx n s
  | .ldAtSpNIy n => Sys2Proof.Machine.execLdAtSpNIy n s
  | .ldHlAtSpN n => Sys2Proof.Machine.execLdHlAtSpN n s
  | .ldIxAtSpN n => Sys2Proof.Machine.execLdIxAtSpN n s
  | .ldIyAtSpN n => Sys2Proof.Machine.execLdIyAtSpN n s
  | .ldAtIxDHl d => Sys2Proof.Machine.execLdAtIxDHl d s
  | .ldHlAtIxD d => Sys2Proof.Machine.execLdHlAtIxD d s
  | .ldAtIyDHl d => Sys2Proof.Machine.execLdAtIyDHl d s
  | .ldHlAtIyD d => Sys2Proof.Machine.execLdHlAtIyD d s
  | .ldpAtHlHl => Sys2Proof.Machine.execLdpAtHlHl s
  | .ldpAtIxHl => Sys2Proof.Machine.execLdpAtIxHl s
  | .ldpAtIyHl => Sys2Proof.Machine.execLdpAtIyHl s
  | .ldpHlAtHl => Sys2Proof.Machine.execLdpHlAtHl s
  | .ldpHlAtIx => Sys2Proof.Machine.execLdpHlAtIx s
  | .ldpHlAtIy => Sys2Proof.Machine.execLdpHlAtIy s
  | .ldpAtMnHl mn => Sys2Proof.Machine.execLdpAtMnHl mn s
  | .ldpAtMnIx mn => Sys2Proof.Machine.execLdpAtMnIx mn s
  | .ldpAtMnIy mn => Sys2Proof.Machine.execLdpAtMnIy mn s
  | .ldpHlAtMn mn => Sys2Proof.Machine.execLdpHlAtMn mn s
  | .ldpIxAtMn mn => Sys2Proof.Machine.execLdpIxAtMn mn s
  | .ldpIyAtMn mn => Sys2Proof.Machine.execLdpIyAtMn mn s
  | .ldRG r g => Sys2Proof.Machine.execLdRG r g s
  | .ldAEir => Sys2Proof.Machine.execLdAEir s
  | .ldAIir => Sys2Proof.Machine.execLdAIir s
  | .ldAXpc => Sys2Proof.Machine.execLdAXpc s
  | .ldEirA => Sys2Proof.Machine.execLdEirA s
  | .ldIirA => Sys2Proof.Machine.execLdIirA s
  | .ldXpcA => Sys2Proof.Machine.execLdXpcA s
  | .ldHlIx => Sys2Proof.Machine.execLdHlIx s
  | .ldHlIy => Sys2Proof.Machine.execLdHlIy s
  | .ldIxHl => Sys2Proof.Machine.execLdIxHl s
  | .ldIyHl => Sys2Proof.Machine.execLdIyHl s
  | .ldSpHl => Sys2Proof.Machine.execLdSpHl s
  | .ldSpIx => Sys2Proof.Machine.execLdSpIx s
  | .ldSpIy => Sys2Proof.Machine.execLdSpIy s
  | .ldDdaBc dd => Sys2Proof.Machine.execLdDdaBc dd s
  | .ldDdaDe dd => Sys2Proof.Machine.execLdDdaDe dd s
  | .exAtSpHl => Sys2Proof.Machine.execExAtSpHl s
  | .exAtSpIx => Sys2Proof.Machine.execExAtSpIx s
  | .exAtSpIy => Sys2Proof.Machine.execExAtSpIy s
  | .exAfAfa => Sys2Proof.Machine.execExAfAfa s
  | .exDeaHl => Sys2Proof.Machine.execExDeaHl s
  | .exDeaHla => Sys2Proof.Machine.execExDeaHla s
  | .exDeHl => Sys2Proof.Machine.execExDeHl s
  | .exDeHla => Sys2Proof.Machine.execExDeHla s
  | .exx => Sys2Proof.Machine.execExx s
  | .popIp => Sys2Proof.Machine.execPopIp s
  | .popIx => Sys2Proof.Machine.execPopIx s
  | .popIy => Sys2Proof.Machine.execPopIy s
  | .popZz zz => Sys2Proof.Machine.execPopZz zz s
  | .pushIp => Sys2Proof.Machine.execPushIp s
  | .pushIx => Sys2Proof.Machine.execPushIx s
  | .pushIy => Sys2Proof.Machine.execPushIy s
  | .pushZz zz => Sys2Proof.Machine.execPushZz zz s
  | .addSpD d => Sys2Proof.Machine.execAddSpD d s
  | .adcHlSs ss => Sys2Proof.Machine.execAdcHlSs ss s
  | .addHlSs ss => Sys2Proof.Machine.execAddHlSs ss s
  | .addIxXx xx => Sys2Proof.Machine.execAddIxXx xx s
  | .addIyYy yy => Sys2Proof.Machine.execAddIyYy yy s
  | .andHlDe => Sys2Proof.Machine.execAndHlDe s
  | .andIxDe => Sys2Proof.Machine.execAndIxDe s
  | .andIyDe => Sys2Proof.Machine.execAndIyDe s
  | .boolHl => Sys2Proof.Machine.execBoolHl s
  | .boolIx => Sys2Proof.Machine.execBoolIx s
  | .boolIy => Sys2Proof.Machine.execBoolIy s
  | .decIx => Sys2Proof.Machine.execDecIx s
  | .decIy => Sys2Proof.Machine.execDecIy s
  | .decSs ss => Sys2Proof.Machine.execDecSs ss s
  | .incIx => Sys2Proof.Machine.execIncIx s
  | .incIy => Sys2Proof.Machine.execIncIy s
  | .incSs ss => Sys2Proof.Machine.execIncSs ss s
  | .mul => Sys2Proof.Machine.execMul s
  | .orHlDe => Sys2Proof.Machine.execOrHlDe s
  | .orIxDe => Sys2Proof.Machine.execOrIxDe s
  | .orIyDe => Sys2Proof.Machine.execOrIyDe s
  | .rlDe => Sys2Proof.Machine.execRlDe s
  | .rrDe => Sys2Proof.Machine.execRrDe s
  | .rrHl => Sys2Proof.Machine.execRrHl s
  | .rrIx => Sys2Proof.Machine.execRrIx s
  | .rrIy => Sys2Proof.Machine.execRrIy s
  | .sbcHlSs ss => Sys2Proof.Machine.execSbcHlSs ss s
  | .adcAAtHl => Sys2Proof.Machine.execAdcAAtHl s
  | .adcAAtIxD d => Sys2Proof.Machine.execAdcAAtIxD d s
  | .adcAAtIyD d => Sys2Proof.Machine.execAdcAAtIyD d s
  | .adcAN n => Sys2Proof.Machine.execAdcAN n s
  | .adcAR r => Sys2Proof.Machine.execAdcAR r s
  | .addAAtHl => Sys2Proof.Machine.execAddAAtHl s
  | .addAAtIxD d => Sys2Proof.Machine.execAddAAtIxD d s
  | .addAAtIyD d => Sys2Proof.Machine.execAddAAtIyD d s
  | .addAN n => Sys2Proof.Machine.execAddAN n s
  | .addAR r => Sys2Proof.Machine.execAddAR r s
  | .andAtHl => Sys2Proof.Machine.execAndAtHl s
  | .andAtIxD d => Sys2Proof.Machine.execAndAtIxD d s
  | .andAtIyD d => Sys2Proof.Machine.execAndAtIyD d s
  | .andN n => Sys2Proof.Machine.execAndN n s
  | .andR r => Sys2Proof.Machine.execAndR r s
  | .cpAtHl => Sys2Proof.Machine.execCpAtHl s
  | .cpAtIxD d => Sys2Proof.Machine.execCpAtIxD d s
  | .cpAtIyD d => Sys2Proof.Machine.execCpAtIyD d s
  | .cpN n => Sys2Proof.Machine.execCpN n s
  | .cpR r => Sys2Proof.Machine.execCpR r s
  | .orAtHl => Sys2Proof.Machine.execOrAtHl s
  | .orAtIxD d => Sys2Proof.Machine.execOrAtIxD d s
  | .orAtIyD d => Sys2Proof.Machine.execOrAtIyD d s
  | .orN n => Sys2Proof.Machine.execOrN n s
  | .orR r => Sys2Proof.Machine.execOrR r s
  | .sbcAAtHl => Sys2Proof.Machine.execSbcAAtHl s
  | .sbcAAtIxD d => Sys2Proof.Machine.execSbcAAtIxD d s
  | .sbcAAtIyD d => Sys2Proof.Machine.execSbcAAtIyD d s
  | .sbcAN n => Sys2Proof.Machine.execSbcAN n s
  | .sbcAR r => Sys2Proof.Machine.execSbcAR r s
  | .subAtHl => Sys2Proof.Machine.execSubAtHl s
  | .subAtIxD d => Sys2Proof.Machine.execSubAtIxD d s
  | .subAtIyD d => Sys2Proof.Machine.execSubAtIyD d s
  | .subN n => Sys2Proof.Machine.execSubN n s
  | .subR r => Sys2Proof.Machine.execSubR r s
  | .xorAtHl => Sys2Proof.Machine.execXorAtHl s
  | .xorAtIxD d => Sys2Proof.Machine.execXorAtIxD d s
  | .xorAtIyD d => Sys2Proof.Machine.execXorAtIyD d s
  | .xorN n => Sys2Proof.Machine.execXorN n s
  | .xorR r => Sys2Proof.Machine.execXorR r s
  | .decAtHl => Sys2Proof.Machine.execDecAtHl s
  | .decAtIxD d => Sys2Proof.Machine.execDecAtIxD d s
  | .decAtIyD d => Sys2Proof.Machine.execDecAtIyD d s
  | .decR r => Sys2Proof.Machine.execDecR r s
  | .incAtHl => Sys2Proof.Machine.execIncAtHl s
  | .incAtIxD d => Sys2Proof.Machine.execIncAtIxD d s
  | .incAtIyD d => Sys2Proof.Machine.execIncAtIyD d s
  | .incR r => Sys2Proof.Machine.execIncR r s
  | .cpl => Sys2Proof.Machine.execCpl s
  | .neg => Sys2Proof.Machine.execNeg s
  | .rla => Sys2Proof.Machine.execRla s
  | .rlca => Sys2Proof.Machine.execRlca s
  | .rra => Sys2Proof.Machine.execRra s
  | .rrca => Sys2Proof.Machine.execRrca s
  | .bitBAtHl b => Sys2Proof.Machine.execBitBAtHl b s
  | .bitBAtIxD b d => Sys2Proof.Machine.execBitBAtIxD b d s
  | .bitBAtIyD b d => Sys2Proof.Machine.execBitBAtIyD b d s
  | .bitBR b r => Sys2Proof.Machine.execBitBR b r s
  | .resBAtHl b => Sys2Proof.Machine.execResBAtHl b s
  | .resBAtIxD b d => Sys2Proof.Machine.execResBAtIxD b d s
  | .resBAtIyD b d => Sys2Proof.Machine.execResBAtIyD b d s
  | .resBR b r => Sys2Proof.Machine.execResBR b r s
  | .setBAtHl b => Sys2Proof.Machine.execSetBAtHl b s
  | .setBAtIxD b d => Sys2Proof.Machine.execSetBAtIxD b d s
  | .setBAtIyD b d => Sys2Proof.Machine.execSetBAtIyD b d s
  | .setBR b r => Sys2Proof.Machine.execSetBR b r s
  | .rlAtHl => Sys2Proof.Machine.execRlAtHl s
  | .rlAtIxD d => Sys2Proof.Machine.execRlAtIxD d s
  | .rlAtIyD d => Sys2Proof.Machine.execRlAtIyD d s
  | .rlR r => Sys2Proof.Machine.execRlR r s
  | .rlcAtHl => Sys2Proof.Machine.execRlcAtHl s
  | .rlcAtIxD d => Sys2Proof.Machine.execRlcAtIxD d s
  | .rlcAtIyD d => Sys2Proof.Machine.execRlcAtIyD d s
  | .rlcR r => Sys2Proof.Machine.execRlcR r s
  | .rrAtHl => Sys2Proof.Machine.execRrAtHl s
  | .rrAtIxD d => Sys2Proof.Machine.execRrAtIxD d s
  | .rrAtIyD d => Sys2Proof.Machine.execRrAtIyD d s
  | .rrR r => Sys2Proof.Machine.execRrR r s
  | .rrcAtHl => Sys2Proof.Machine.execRrcAtHl s
  | .rrcAtIxD d => Sys2Proof.Machine.execRrcAtIxD d s
  | .rrcAtIyD d => Sys2Proof.Machine.execRrcAtIyD d s
  | .rrcR r => Sys2Proof.Machine.execRrcR r s
  | .slaAtHl => Sys2Proof.Machine.execSlaAtHl s
  | .slaAtIxD d => Sys2Proof.Machine.execSlaAtIxD d s
  | .slaAtIyD d => Sys2Proof.Machine.execSlaAtIyD d s
  | .slaR r => Sys2Proof.Machine.execSlaR r s
  | .sraAtHl => Sys2Proof.Machine.execSraAtHl s
  | .sraAtIxD d => Sys2Proof.Machine.execSraAtIxD d s
  | .sraAtIyD d => Sys2Proof.Machine.execSraAtIyD d s
  | .sraR r => Sys2Proof.Machine.execSraR r s
  | .srlAtHl => Sys2Proof.Machine.execSrlAtHl s
  | .srlAtIxD d => Sys2Proof.Machine.execSrlAtIxD d s
  | .srlAtIyD d => Sys2Proof.Machine.execSrlAtIyD d s
  | .srlR r => Sys2Proof.Machine.execSrlR r s
  | .altd => Sys2Proof.Machine.execAltd s
  | .ioi => Sys2Proof.Machine.execIoi s
  | .ioe => Sys2Proof.Machine.execIoe s
  | .ldd => Sys2Proof.Machine.execLdd s
  | .lddr => Sys2Proof.Machine.execLddr s
  | .ldi => Sys2Proof.Machine.execLdi s
  | .ldir => Sys2Proof.Machine.execLdir s
  | .callMn mn => Sys2Proof.Machine.execCallMn mn s
  | .djnzE e => Sys2Proof.Machine.execDjnzE e s
  | .jpAtHl => Sys2Proof.Machine.execJpAtHl s
  | .jpAtIx => Sys2Proof.Machine.execJpAtIx s
  | .jpAtIy => Sys2Proof.Machine.execJpAtIy s
  | .jpFMn f mn => Sys2Proof.Machine.execJpFMn f mn s
  | .jpMn mn => Sys2Proof.Machine.execJpMn mn s
  | .jrCcE cc e => Sys2Proof.Machine.execJrCcE cc e s
  | .jrE e => Sys2Proof.Machine.execJrE e s
  | .lcallXMn x mn => Sys2Proof.Machine.execLcallXMn x mn s
  | .ljpXMn x mn => Sys2Proof.Machine.execLjpXMn x mn s
  | .lret => Sys2Proof.Machine.execLret s
  | .ret => Sys2Proof.Machine.execRet s
  | .retF f => Sys2Proof.Machine.execRetF f s
  | .reti => Sys2Proof.Machine.execReti s
  | .rstV v => Sys2Proof.Machine.execRstV v s
  | .ccf => Sys2Proof.Machine.execCcf s
  | .ipset0 => Sys2Proof.Machine.execIpset0 s
  | .ipset1 => Sys2Proof.Machine.execIpset1 s
  | .ipset2 => Sys2Proof.Machine.execIpset2 s
  | .ipset3 => Sys2Proof.Machine.execIpset3 s
  | .ipres => Sys2Proof.Machine.execIpres s
  | .nop => Sys2Proof.Machine.execNop s
  | .scf => Sys2Proof.Machine.execScf s
  | .uma => Sys2Proof.Machine.execUma s
  | .ums => Sys2Proof.Machine.execUms s
  | .lddsr => Sys2Proof.Machine.execLddsr s
  | .ldisr => Sys2Proof.Machine.execLdisr s
  | .lsdr => Sys2Proof.Machine.execLsdr s
  | .lsir => Sys2Proof.Machine.execLsir s
  | .lsddr => Sys2Proof.Machine.execLsddr s
  | .lsidr => Sys2Proof.Machine.execLsidr s
  | .setusr => Sys2Proof.Machine.execSetusr s
  | .pushSu => Sys2Proof.Machine.execPushSu s
  | .popSu => Sys2Proof.Machine.execPopSu s
  | .sures => Sys2Proof.Machine.execSures s
  | .idet => Sys2Proof.Machine.execIdet s
  | .rdmode => Sys2Proof.Machine.execRdmode s
  | .syscall => Sys2Proof.Machine.execSyscall s

end Sys2Proof.Machine
end

