-- ==== Sys2Proof/Machine/Environment.lean ====
section
/-! DEFINITION. What comes from outside an instruction: reset, time, pins, serial characters, the slave-port master, and the
bootstrap (`00_scope.md` R7, R9; `61_system_management.md` R680 to R685; `70_reset_and_hazards.md` R900 to R911). -/
namespace Sys2Proof.Machine

/-- The n-th free value from here on (log 6). -/
def Dev.fill (d : Dev) (k : Nat) : Byte := Config.freeByte (d.free + k)

/-- A reset of the running machine: /RESET (cause 11) or the watchdog (cause 01).  Memory, the real-time clock and the
registers `10_state.md` R40 does not list are kept; what R40 calls unspecified is a free value
(`70_reset_and_hazards.md` R900, log 25). -/
def State.warmReset (s : State) (cause : BitVec 2) (period : BitVec 17) : State :=
  { s with
    cpu := { s.cpu with
      sp := 0, pc := 0, iir := 0, eir := 0, ip := 0xFF
      su := s.dev.fill 150 &&& 0xFC
      altd := false, iospace := .memory, defer := false, start := 0, lastIo := false }
    dev := { Dev.atReset s.cfg.rev s.dev.fill cause period s.dev with free := s.dev.free + resetFillCount } }

/-- The /RESET pin: cause 11 and the two-second watchdog period (`61_system_management.md` R672, R682, D33). -/
def State.resetPin (s : State) : State := s.warmReset 3 0x10000

/-- A watchdog time-out: cause 01; the selected period is kept (`61_system_management.md` R672, `70_reset_and_hazards.md`
R900). -/
def State.watchdogReset (s : State) : State := s.warmReset 1 s.dev.wdt.period

/-- One cycle of the 32.768 kHz oscillator (`61_system_management.md` R680 to R685). -/
def State.tick32k (s : State) : State :=
  if s.dev.wdt.expires then ({ s with dev := clk32Tick s.dev }).watchdogReset else { s with dev := clk32Tick s.dev }

/-- `n` cycles of the 32.768 kHz oscillator. -/
def State.ticks32k : Nat → State → State
  | 0, s => s
  | n + 1, s => State.ticks32k n s.tick32k

/-- While the watchdog is clocked for a test, whether it times out as time passes is left free
(`61_system_management.md` R683, log 36). -/
def State.testClocked (s : State) : State :=
  if s.dev.wdt.testing then
    (if bit (s.dev.draw).1 0 then ({ s with dev := (s.dev.draw).2 }).watchdogReset else { s with dev := (s.dev.draw).2 })
  else s

/-- A byte reaches the boot ROM, which restarts the watchdog; the third of a triplet is written where the first two say, and
the SMODE pins then name the source of the next triplet (`70_reset_and_hazards.md` R910, log 26).  Whether the ROM's I/O obeys
the User-mode restrictions at a re-entry in User mode is not stated: it does not, so that 80 24 80 ends the bootstrap there too
(DESIGN CHOICE, log 26). -/
def State.bootByte (s : State) (v : Byte) : Result :=
  let d := { s.dev with wdt := { s.dev.wdt with count := 0 } }
  match s.dev.boot.bytes with
  | [hi, lo] =>
    let t := { s with dev := { d with boot := { d.boot with source := d.smode, bytes := [] } } }
    if bit hi 7 then t.ioWrite (ioWriteInternal t.cfg false t.dev (word (hi &&& 0x7F) lo) v)
    else .next (t.memWrite (word hi lo) v)
  | bs => .next { s with dev := { d with boot := { d.boot with bytes := bs ++ [v] } } }

/-- Whether the boot ROM is done: between triplets, with the bootstrap no longer wanted (`70_reset_and_hazards.md` R910). -/
def State.bootDone (s : State) : Bool := s.dev.boot.bytes.isEmpty && !s.dev.bootWanted

/-- Whether the boot ROM has control, is not done, and takes its bytes from this source: 1 = the slave port, 2 and 3 = Serial
Port A (`70_reset_and_hazards.md` R910). -/
def State.bootListens (s : State) (source : BitVec 2) : Bool :=
  s.dev.boot.active && !s.bootDone && decide (s.dev.boot.source = source)

/-- A register set of free values. -/
def freeSet (fill : Nat → Byte) (k : Nat) : RegSet :=
  ⟨fill k, fill (k + 1), fill (k + 2), fill (k + 3), fill (k + 4), fill (k + 5), fill (k + 6), fill (k + 7)⟩

/-- How many free values the end of a bootstrap uses. -/
def bootFillCount : Nat := 32

/-- The end of the bootstrap: execution goes on at the fetch it intercepted, and every register but PC is unspecified
(`70_reset_and_hazards.md` R910, R911, log 26).  Whether a deferral that a privileged instruction left before the intercepted
fetch survives (`48_misc_privileged.md` R540) is not stated, nor whether a latch does: the hand-over leaves no deferral and no
latch (DESIGN CHOICE, log 26). -/
def State.bootExit (s : State) : State :=
  let fill := s.dev.fill
  { s with
    cpu := {
      main := freeSet fill 0, alt := freeSet fill 8
      ix := fillWord fill 16, iy := fillWord fill 18, sp := fillWord fill 20
      pc := s.cpu.pc
      xpc := fill 22, ip := fill 23, iir := fill 24, eir := fill 25
      su := match s.cfg.rev with | .r3000 => s.cpu.su | .r3000A => fill 26
      altd := false, iospace := .memory, defer := false, start := s.cpu.pc, lastIo := false }
    dev := { s.dev with boot := { s.dev.boot with active := false, bytes := [] }, free := s.dev.free + bootFillCount } }

/-- A step while the boot ROM has control: between triplets it gives control back once the bootstrap is no longer wanted;
else, with the slave port as the source, it takes the byte that SPSR[4] says the master wrote to SPD0R; else it waits for a
byte (`70_reset_and_hazards.md` R910, `64_serial_slave.md` R877, log 26). -/
def State.bootStep (s : State) : Result :=
  if s.bootDone then .next s.bootExit
  else if decide (s.dev.boot.source = 1) && bit s.dev.slave.spsr 4 then
    ({ s with dev := { s.dev with slave := (s.dev.slave.readIn 0).2 } }).bootByte (s.dev.slave.readIn 0).1
  else .next s

/-- The boot ROM intercepts the fetch of an instruction whose address ends in four zeros (`70_reset_and_hazards.md` R911). -/
def State.bootIntercepts (s : State) : Bool := decide (s.cpu.pc.extractLsb' 0 4 = 0) && s.dev.bootWanted

/-- The boot ROM takes control, with the source the SMODE pins name.  Whether such a re-entry with SMODE = 01 forces SPCR[3:2] to
10 is not stated (`64_serial_slave.md` R871 and R877 do so after reset, R910 gives no condition): SPCR keeps what software
wrote, and with another mode the master stays disconnected (DESIGN CHOICE, log 26). -/
def State.bootEnter (s : State) : State := { s with dev := { s.dev with boot := ⟨true, s.dev.smode, []⟩ } }

/-- The devices replaced by what an event makes of them, the edge catchers watching Port E. -/
def State.onDev (s : State) (d : Dev) : State := { s with dev := catchEdges s.cfg.rev s.dev d }

/-- A read or write of the slave port's master, which is connected only while the port is enabled and the chip select /SCS,
the level on PE7, is low (`62_ports_io_banks.md` R726, `64_serial_slave.md` R870 to R872). -/
def State.slaveAccess (s : State) (d : Dev) : State :=
  if s.dev.slave.mode = 2 ∧ timedLevel s.cfg.rev s.dev .e 7 = some false then { s with dev := d } else s

/-- A character arrives on a port; the boot ROM takes one from Serial Port A with SMODE = 11, without touching the port's
registers, which the spec does not describe there (`64_serial_slave.md` R852, `70_reset_and_hazards.md` R910; DESIGN CHOICE,
log 26). -/
def State.charArrives (s : State) (p : SerialId) (v : Byte) (ninth : Bool) : Result :=
  if decide (p = .a) && s.bootListens 3 then s.bootByte v
  else .next (s.onDev (serialCharEvent s.cfg s.dev p v ninth))

/-- A clocked burst ends on a port; the boot ROM takes its byte from Serial Port A with SMODE = 10, without touching the
port's registers, which the spec does not describe there (`64_serial_slave.md` R854, `70_reset_and_hazards.md` R910; DESIGN
CHOICE, log 26). -/
def State.burstArrives (s : State) (p : SerialId) (v : Byte) : Result :=
  if decide (p = .a) && s.bootListens 2 then s.bootByte v
  else .next (s.onDev (serialBurstEvent s.cfg s.dev p v))

/-- The events still to come, one instruction later (log 19). -/
def laterInbox : List (Nat × HostEvent) → List (Nat × HostEvent)
  | (n + 1, e) :: rest => (n, e) :: rest
  | other => other

end Sys2Proof.Machine
end

