-- ==== Sys2Proof/WellFormed.lean ====
section
/-! DEFINITION. Which instructions exist on which revision and under which map of the added opcodes (`30_encoding.md` R126,
R133; `49_r3000a_opcodes.md` R550, R570). -/
namespace Sys2Proof

/-- Which of the fourteen instructions without a byte value in the source this is (`30_encoding.md` R133). -/
def Instr.added : Instr → Option Added
  | .uma => some .uma
  | .ums => some .ums
  | .lddsr => some .lddsr
  | .ldisr => some .ldisr
  | .lsdr => some .lsdr
  | .lsir => some .lsir
  | .lsddr => some .lsddr
  | .lsidr => some .lsidr
  | .setusr => some .setusr
  | .pushSu => some .pushSu
  | .popSu => some .popSu
  | .sures => some .sures
  | .rdmode => some .rdmode
  | .syscall => some .syscall
  | _ => none

/-- The fifteen instructions of REV = R3000A only: the fourteen and IDET (`30_encoding.md` R133). -/
def Instr.only3000A (i : Instr) : Bool :=
  match i with
  | .idet => true
  | i => i.added.isSome

/-- `LD E,E`, whose byte 0x5B is IDET on REV = R3000A (`30_encoding.md` R126). -/
def Instr.isLdEE : Instr → Bool
  | .ldRG .e .e => true
  | _ => false

/-- Whether the map of added opcodes gives an instruction its bytes; every other instruction has them from the manual. -/
def OpcodeMap.names (ops : OpcodeMap) (i : Instr) : Bool :=
  match i.added with
  | some n => (ops.lookup n).isSome
  | none => true

/-- An instruction that the revision has and the decoder can meet: the 3000A's own only there, each of the fourteen only
where the map names it, and `LD E,E` only on the original chip. -/
def WellFormed (rev : Rev) (ops : OpcodeMap) (i : Instr) : Bool :=
  match rev with
  | .r3000 => !i.only3000A
  | .r3000A => !i.isLdEE && ops.names i

end Sys2Proof
end

