-- ==== Sys2Proof/Decode.lean ====
section
/-! DEFINITION. The decoder, table by table as `30_encoding.md` R125 to R133 lay the opcode pages out, total on any list of
bytes and rejecting by name; and after it the encoder, from the same encodings. -/
namespace Sys2Proof
open Sys2Proof.Machine

/-- Why bytes are no instruction. -/
inductive DecodeError where
  /-- the named page does not assign this opcode byte (`30_encoding.md` R135) -/
  | unassigned (page : String) (op : Byte)
  /-- the bytes end before the instruction does -/
  | outOfBytes
deriving DecidableEq, Repr

/-- The 3-bit field of an opcode byte whose low bit is bit `lo` (`30_encoding.md` R122). -/
def fld3 (b : Byte) (lo : Nat) : BitVec 3 := b.extractLsb' lo 3

/-- The 2-bit field of an opcode byte whose low bit is bit `lo` (`30_encoding.md` R122). -/
def fld2 (b : Byte) (lo : Nat) : BitVec 2 := b.extractLsb' lo 2

/-- The code of the byte register (`00_scope.md` R12). -/
def R8.code : R8 → BitVec 3
  | .b => 0
  | .c => 1
  | .d => 2
  | .e => 3
  | .h => 4
  | .l => 5
  | .a => 7

/-- the byte register with a code; `none` where the code names none (`00_scope.md` R12). -/
def R8.ofCode (c : BitVec 3) : Option R8 :=
  if c = 0 then some .b else if c = 1 then some .c else if c = 2 then some .d else if c = 3 then some .e else if c = 4 then some .h else if c = 5 then some .l else if c = 7 then some .a else none

/-- The code of the word register (`00_scope.md` R12). -/
def SS.code : SS → BitVec 2
  | .bc => 0
  | .de => 1
  | .hl => 2
  | .sp => 3

/-- the word register with a code (`00_scope.md` R12). -/
def SS.ofCode (c : BitVec 2) : SS :=
  if c = 0 then .bc else if c = 1 then .de else if c = 2 then .hl else .sp

/-- The code of the alternate word register (`00_scope.md` R12). -/
def DDa.code : DDa → BitVec 2
  | .bc => 0
  | .de => 1
  | .hl => 2

/-- the alternate word register with a code; `none` where the code names none (`00_scope.md` R12). -/
def DDa.ofCode (c : BitVec 2) : Option DDa :=
  if c = 0 then some .bc else if c = 1 then some .de else if c = 2 then some .hl else none

/-- The code of the word register (`00_scope.md` R12). -/
def XX.code : XX → BitVec 2
  | .bc => 0
  | .de => 1
  | .ix => 2
  | .sp => 3

/-- the word register with a code (`00_scope.md` R12). -/
def XX.ofCode (c : BitVec 2) : XX :=
  if c = 0 then .bc else if c = 1 then .de else if c = 2 then .ix else .sp

/-- The code of the word register (`00_scope.md` R12). -/
def YY.code : YY → BitVec 2
  | .bc => 0
  | .de => 1
  | .iy => 2
  | .sp => 3

/-- the word register with a code (`00_scope.md` R12). -/
def YY.ofCode (c : BitVec 2) : YY :=
  if c = 0 then .bc else if c = 1 then .de else if c = 2 then .iy else .sp

/-- The code of the word register (`00_scope.md` R12). -/
def ZZ.code : ZZ → BitVec 2
  | .bc => 0
  | .de => 1
  | .hl => 2
  | .af => 3

/-- the word register with a code (`00_scope.md` R12). -/
def ZZ.ofCode (c : BitVec 2) : ZZ :=
  if c = 0 then .bc else if c = 1 then .de else if c = 2 then .hl else .af

/-- The code of the condition (`00_scope.md` R12). -/
def Cond.code : Cond → BitVec 3
  | .nz => 0
  | .z => 1
  | .nc => 2
  | .c => 3
  | .lz => 4
  | .lo => 5
  | .p => 6
  | .m => 7

/-- the condition with a code (`00_scope.md` R12). -/
def Cond.ofCode (c : BitVec 3) : Cond :=
  if c = 0 then .nz else if c = 1 then .z else if c = 2 then .nc else if c = 3 then .c else if c = 4 then .lz else if c = 5 then .lo else if c = 6 then .p else .m

/-- The code of the condition (`00_scope.md` R12). -/
def CC.code : CC → BitVec 2
  | .nz => 0
  | .z => 1
  | .nc => 2
  | .c => 3

/-- the condition with a code (`00_scope.md` R12). -/
def CC.ofCode (c : BitVec 2) : CC :=
  if c = 0 then .nz else if c = 1 then .z else if c = 2 then .nc else .c

/-- The code of the restart operand (`00_scope.md` R12). -/
def RstV.code : RstV → BitVec 3
  | .v10 => 2
  | .v18 => 3
  | .v20 => 4
  | .v28 => 5
  | .v38 => 7

/-- the restart operand with a code; `none` where the code names none (`00_scope.md` R12). -/
def RstV.ofCode (c : BitVec 3) : Option RstV :=
  if c = 2 then some .v10 else if c = 3 then some .v18 else if c = 4 then some .v20 else if c = 5 then some .v28 else if c = 7 then some .v38 else none

/-- An instruction whose opcode is known, waiting for its operand bytes (`30_encoding.md` R121). -/
inductive Form where
  /-- no operand byte -/
  | done (i : Instr)
  /-- one operand byte: n, d or e -/
  | imm8 (k : Byte → Instr)
  /-- a 16-bit constant, low byte first -/
  | imm16 (k : Word → Instr)
  /-- a displacement, then a constant byte -/
  | disp8imm8 (k : Byte → Byte → Instr)
  /-- a 16-bit constant, low byte first, then the XPC byte -/
  | imm16imm8 (k : Word → Byte → Instr)

/-- Reads the operand bytes a form calls for, in order (`30_encoding.md` R120, R125). -/
def Form.read : Form → List Byte → Except DecodeError (Instr × List Byte)
  | .done i, rest => .ok (i, rest)
  | .imm8 k, n :: rest => .ok (k n, rest)
  | .imm16 k, n :: m :: rest => .ok (k (word m n), rest)
  | .disp8imm8 k, d :: n :: rest => .ok (k d n, rest)
  | .imm16imm8 k, n :: m :: x :: rest => .ok (k (word m n) x, rest)
  | _, _ => .error .outOfBytes

/-- One row of a page: the opcode byte's mask and pattern, whether only REV = R3000A has it, and the form it gives from the
byte's fields (`none` for a field value the row excludes). -/
structure OpRow where
  mask : Byte
  pattern : Byte
  only3000A : Bool
  form : Byte → Option Form

/-- The form a row gives an opcode byte on a revision, if it is the row's. -/
def OpRow.select (rev : Rev) (b : Byte) (row : OpRow) : Option Form :=
  if b &&& row.mask = row.pattern ∧ (row.only3000A = true → rev = .r3000A) then row.form b else none

/-- The one-byte page (`30_encoding.md` R126); IDET stands before the `LD r,g` row it is cut from, part 1. -/
def mainRows0 : List OpRow := [
  ⟨0xFF, 0x5B, true, fun _ => some (.done .idet)⟩,
  ⟨0xCF, 0x01, false, fun b => some (.imm16 (fun mn => .ldDdMn (SS.ofCode (fld2 b 4)) mn))⟩,
  ⟨0xC7, 0x06, false, fun b => (R8.ofCode (fld3 b 3)).bind fun r => some (.imm8 (fun n => .ldRN r n))⟩,
  ⟨0xFF, 0x32, false, fun _ => some (.imm16 (fun mn => .ldAtMnA mn))⟩,
  ⟨0xFF, 0x3A, false, fun _ => some (.imm16 (fun mn => .ldAAtMn mn))⟩,
  ⟨0xFF, 0x22, false, fun _ => some (.imm16 (fun mn => .ldAtMnHl mn))⟩,
  ⟨0xFF, 0x2A, false, fun _ => some (.imm16 (fun mn => .ldHlAtMn mn))⟩,
  ⟨0xFF, 0x0A, false, fun _ => some (.done .ldAAtBc)⟩,
  ⟨0xFF, 0x1A, false, fun _ => some (.done .ldAAtDe)⟩,
  ⟨0xFF, 0x02, false, fun _ => some (.done .ldAtBcA)⟩,
  ⟨0xFF, 0x12, false, fun _ => some (.done .ldAtDeA)⟩,
  ⟨0xFF, 0x36, false, fun _ => some (.imm8 (fun n => .ldAtHlN n))⟩,
  ⟨0xF8, 0x70, false, fun b => (R8.ofCode (fld3 b 0)).bind fun r => some (.done (.ldAtHlR r))⟩,
  ⟨0xC7, 0x46, false, fun b => (R8.ofCode (fld3 b 3)).bind fun r => some (.done (.ldRAtHl r))⟩,
  ⟨0xFF, 0xD4, false, fun _ => some (.imm8 (fun n => .ldAtSpNHl n))⟩,
  ⟨0xFF, 0xC4, false, fun _ => some (.imm8 (fun n => .ldHlAtSpN n))⟩,
  ⟨0xFF, 0xF4, false, fun _ => some (.imm8 (fun d => .ldAtIxDHl d))⟩,
  ⟨0xFF, 0xE4, false, fun _ => some (.imm8 (fun d => .ldHlAtIxD d))⟩,
  ⟨0xC0, 0x40, false, fun b => (R8.ofCode (fld3 b 3)).bind fun r => (R8.ofCode (fld3 b 0)).bind fun g => some (.done (.ldRG r g))⟩,
  ⟨0xFF, 0xF9, false, fun _ => some (.done .ldSpHl)⟩]

/-- The one-byte page (`30_encoding.md` R126); IDET stands before the `LD r,g` row it is cut from, part 2. -/
def mainRows1 : List OpRow := [
  ⟨0xFF, 0x08, false, fun _ => some (.done .exAfAfa)⟩,
  ⟨0xFF, 0xE3, false, fun _ => some (.done .exDeaHl)⟩,
  ⟨0xFF, 0xEB, false, fun _ => some (.done .exDeHl)⟩,
  ⟨0xFF, 0xD9, false, fun _ => some (.done .exx)⟩,
  ⟨0xCF, 0xC1, false, fun b => some (.done (.popZz (ZZ.ofCode (fld2 b 4))))⟩,
  ⟨0xCF, 0xC5, false, fun b => some (.done (.pushZz (ZZ.ofCode (fld2 b 4))))⟩,
  ⟨0xFF, 0x27, false, fun _ => some (.imm8 (fun d => .addSpD d))⟩,
  ⟨0xCF, 0x09, false, fun b => some (.done (.addHlSs (SS.ofCode (fld2 b 4))))⟩,
  ⟨0xFF, 0xDC, false, fun _ => some (.done .andHlDe)⟩,
  ⟨0xFF, 0xCC, false, fun _ => some (.done .boolHl)⟩,
  ⟨0xCF, 0x0B, false, fun b => some (.done (.decSs (SS.ofCode (fld2 b 4))))⟩,
  ⟨0xCF, 0x03, false, fun b => some (.done (.incSs (SS.ofCode (fld2 b 4))))⟩,
  ⟨0xFF, 0xF7, false, fun _ => some (.done .mul)⟩,
  ⟨0xFF, 0xEC, false, fun _ => some (.done .orHlDe)⟩,
  ⟨0xFF, 0xF3, false, fun _ => some (.done .rlDe)⟩,
  ⟨0xFF, 0xFB, false, fun _ => some (.done .rrDe)⟩,
  ⟨0xFF, 0xFC, false, fun _ => some (.done .rrHl)⟩,
  ⟨0xFF, 0x8E, false, fun _ => some (.done .adcAAtHl)⟩,
  ⟨0xFF, 0xCE, false, fun _ => some (.imm8 (fun n => .adcAN n))⟩,
  ⟨0xF8, 0x88, false, fun b => (R8.ofCode (fld3 b 0)).bind fun r => some (.done (.adcAR r))⟩]

/-- The one-byte page (`30_encoding.md` R126); IDET stands before the `LD r,g` row it is cut from, part 3. -/
def mainRows2 : List OpRow := [
  ⟨0xFF, 0x86, false, fun _ => some (.done .addAAtHl)⟩,
  ⟨0xFF, 0xC6, false, fun _ => some (.imm8 (fun n => .addAN n))⟩,
  ⟨0xF8, 0x80, false, fun b => (R8.ofCode (fld3 b 0)).bind fun r => some (.done (.addAR r))⟩,
  ⟨0xFF, 0xA6, false, fun _ => some (.done .andAtHl)⟩,
  ⟨0xFF, 0xE6, false, fun _ => some (.imm8 (fun n => .andN n))⟩,
  ⟨0xF8, 0xA0, false, fun b => (R8.ofCode (fld3 b 0)).bind fun r => some (.done (.andR r))⟩,
  ⟨0xFF, 0xBE, false, fun _ => some (.done .cpAtHl)⟩,
  ⟨0xFF, 0xFE, false, fun _ => some (.imm8 (fun n => .cpN n))⟩,
  ⟨0xF8, 0xB8, false, fun b => (R8.ofCode (fld3 b 0)).bind fun r => some (.done (.cpR r))⟩,
  ⟨0xFF, 0xB6, false, fun _ => some (.done .orAtHl)⟩,
  ⟨0xFF, 0xF6, false, fun _ => some (.imm8 (fun n => .orN n))⟩,
  ⟨0xF8, 0xB0, false, fun b => (R8.ofCode (fld3 b 0)).bind fun r => some (.done (.orR r))⟩,
  ⟨0xFF, 0x9E, false, fun _ => some (.done .sbcAAtHl)⟩,
  ⟨0xFF, 0xDE, false, fun _ => some (.imm8 (fun n => .sbcAN n))⟩,
  ⟨0xF8, 0x98, false, fun b => (R8.ofCode (fld3 b 0)).bind fun r => some (.done (.sbcAR r))⟩,
  ⟨0xFF, 0x96, false, fun _ => some (.done .subAtHl)⟩,
  ⟨0xFF, 0xD6, false, fun _ => some (.imm8 (fun n => .subN n))⟩,
  ⟨0xF8, 0x90, false, fun b => (R8.ofCode (fld3 b 0)).bind fun r => some (.done (.subR r))⟩,
  ⟨0xFF, 0xAE, false, fun _ => some (.done .xorAtHl)⟩,
  ⟨0xFF, 0xEE, false, fun _ => some (.imm8 (fun n => .xorN n))⟩]

/-- The one-byte page (`30_encoding.md` R126); IDET stands before the `LD r,g` row it is cut from, part 4. -/
def mainRows3 : List OpRow := [
  ⟨0xF8, 0xA8, false, fun b => (R8.ofCode (fld3 b 0)).bind fun r => some (.done (.xorR r))⟩,
  ⟨0xFF, 0x35, false, fun _ => some (.done .decAtHl)⟩,
  ⟨0xC7, 0x05, false, fun b => (R8.ofCode (fld3 b 3)).bind fun r => some (.done (.decR r))⟩,
  ⟨0xFF, 0x34, false, fun _ => some (.done .incAtHl)⟩,
  ⟨0xC7, 0x04, false, fun b => (R8.ofCode (fld3 b 3)).bind fun r => some (.done (.incR r))⟩,
  ⟨0xFF, 0x2F, false, fun _ => some (.done .cpl)⟩,
  ⟨0xFF, 0x17, false, fun _ => some (.done .rla)⟩,
  ⟨0xFF, 0x07, false, fun _ => some (.done .rlca)⟩,
  ⟨0xFF, 0x1F, false, fun _ => some (.done .rra)⟩,
  ⟨0xFF, 0x0F, false, fun _ => some (.done .rrca)⟩,
  ⟨0xFF, 0x76, false, fun _ => some (.done .altd)⟩,
  ⟨0xFF, 0xD3, false, fun _ => some (.done .ioi)⟩,
  ⟨0xFF, 0xDB, false, fun _ => some (.done .ioe)⟩,
  ⟨0xFF, 0xCD, false, fun _ => some (.imm16 (fun mn => .callMn mn))⟩,
  ⟨0xFF, 0x10, false, fun _ => some (.imm8 (fun e => .djnzE e))⟩,
  ⟨0xFF, 0xE9, false, fun _ => some (.done .jpAtHl)⟩,
  ⟨0xC7, 0xC2, false, fun b => some (.imm16 (fun mn => .jpFMn (Cond.ofCode (fld3 b 3)) mn))⟩,
  ⟨0xFF, 0xC3, false, fun _ => some (.imm16 (fun mn => .jpMn mn))⟩,
  ⟨0xE7, 0x20, false, fun b => some (.imm8 (fun e => .jrCcE (CC.ofCode (fld2 b 3)) e))⟩,
  ⟨0xFF, 0x18, false, fun _ => some (.imm8 (fun e => .jrE e))⟩]

/-- The one-byte page (`30_encoding.md` R126); IDET stands before the `LD r,g` row it is cut from, part 5. -/
def mainRows4 : List OpRow := [
  ⟨0xFF, 0xCF, false, fun _ => some (.imm16imm8 (fun mn x => .lcallXMn x mn))⟩,
  ⟨0xFF, 0xC7, false, fun _ => some (.imm16imm8 (fun mn x => .ljpXMn x mn))⟩,
  ⟨0xFF, 0xC9, false, fun _ => some (.done .ret)⟩,
  ⟨0xC7, 0xC0, false, fun b => some (.done (.retF (Cond.ofCode (fld3 b 3))))⟩,
  ⟨0xC7, 0xC7, false, fun b => (RstV.ofCode (fld3 b 3)).bind fun v => some (.done (.rstV v))⟩,
  ⟨0xFF, 0x3F, false, fun _ => some (.done .ccf)⟩,
  ⟨0xFF, 0x00, false, fun _ => some (.done .nop)⟩,
  ⟨0xFF, 0x37, false, fun _ => some (.done .scf)⟩]

/-- The one-byte page (`30_encoding.md` R126); IDET stands before the `LD r,g` row it is cut from. -/
def mainRows : List OpRow := mainRows0 ++ mainRows1 ++ mainRows2 ++ mainRows3 ++ mainRows4

/-- Page CB (`30_encoding.md` R127), part 1. -/
def cbRows0 : List OpRow := [
  ⟨0xC7, 0x46, false, fun b => some (.done (.bitBAtHl (fld3 b 3)))⟩,
  ⟨0xC0, 0x40, false, fun b => (R8.ofCode (fld3 b 0)).bind fun r => some (.done (.bitBR (fld3 b 3) r))⟩,
  ⟨0xC7, 0x86, false, fun b => some (.done (.resBAtHl (fld3 b 3)))⟩,
  ⟨0xC0, 0x80, false, fun b => (R8.ofCode (fld3 b 0)).bind fun r => some (.done (.resBR (fld3 b 3) r))⟩,
  ⟨0xC7, 0xC6, false, fun b => some (.done (.setBAtHl (fld3 b 3)))⟩,
  ⟨0xC0, 0xC0, false, fun b => (R8.ofCode (fld3 b 0)).bind fun r => some (.done (.setBR (fld3 b 3) r))⟩,
  ⟨0xFF, 0x16, false, fun _ => some (.done .rlAtHl)⟩,
  ⟨0xF8, 0x10, false, fun b => (R8.ofCode (fld3 b 0)).bind fun r => some (.done (.rlR r))⟩,
  ⟨0xFF, 0x06, false, fun _ => some (.done .rlcAtHl)⟩,
  ⟨0xF8, 0x00, false, fun b => (R8.ofCode (fld3 b 0)).bind fun r => some (.done (.rlcR r))⟩,
  ⟨0xFF, 0x1E, false, fun _ => some (.done .rrAtHl)⟩,
  ⟨0xF8, 0x18, false, fun b => (R8.ofCode (fld3 b 0)).bind fun r => some (.done (.rrR r))⟩,
  ⟨0xFF, 0x0E, false, fun _ => some (.done .rrcAtHl)⟩,
  ⟨0xF8, 0x08, false, fun b => (R8.ofCode (fld3 b 0)).bind fun r => some (.done (.rrcR r))⟩,
  ⟨0xFF, 0x26, false, fun _ => some (.done .slaAtHl)⟩,
  ⟨0xF8, 0x20, false, fun b => (R8.ofCode (fld3 b 0)).bind fun r => some (.done (.slaR r))⟩,
  ⟨0xFF, 0x2E, false, fun _ => some (.done .sraAtHl)⟩,
  ⟨0xF8, 0x28, false, fun b => (R8.ofCode (fld3 b 0)).bind fun r => some (.done (.sraR r))⟩,
  ⟨0xFF, 0x3E, false, fun _ => some (.done .srlAtHl)⟩,
  ⟨0xF8, 0x38, false, fun b => (R8.ofCode (fld3 b 0)).bind fun r => some (.done (.srlR r))⟩]

/-- Page CB (`30_encoding.md` R127). -/
def cbRows : List OpRow := cbRows0

/-- Page ED (`30_encoding.md` R128), part 1. -/
def edRows0 : List OpRow := [
  ⟨0xCF, 0x43, false, fun b => some (.imm16 (fun mn => .ldAtMnSs mn (SS.ofCode (fld2 b 4))))⟩,
  ⟨0xCF, 0x4B, false, fun b => some (.imm16 (fun mn => .ldDdAtMn (SS.ofCode (fld2 b 4)) mn))⟩,
  ⟨0xFF, 0x64, false, fun _ => some (.done .ldpAtHlHl)⟩,
  ⟨0xFF, 0x6C, false, fun _ => some (.done .ldpHlAtHl)⟩,
  ⟨0xFF, 0x65, false, fun _ => some (.imm16 (fun mn => .ldpAtMnHl mn))⟩,
  ⟨0xFF, 0x6D, false, fun _ => some (.imm16 (fun mn => .ldpHlAtMn mn))⟩,
  ⟨0xFF, 0x57, false, fun _ => some (.done .ldAEir)⟩,
  ⟨0xFF, 0x5F, false, fun _ => some (.done .ldAIir)⟩,
  ⟨0xFF, 0x77, false, fun _ => some (.done .ldAXpc)⟩,
  ⟨0xFF, 0x47, false, fun _ => some (.done .ldEirA)⟩,
  ⟨0xFF, 0x4F, false, fun _ => some (.done .ldIirA)⟩,
  ⟨0xFF, 0x67, false, fun _ => some (.done .ldXpcA)⟩,
  ⟨0xCF, 0x49, false, fun b => (DDa.ofCode (fld2 b 4)).bind fun dd => some (.done (.ldDdaBc dd))⟩,
  ⟨0xCF, 0x41, false, fun b => (DDa.ofCode (fld2 b 4)).bind fun dd => some (.done (.ldDdaDe dd))⟩,
  ⟨0xFF, 0x54, false, fun _ => some (.done .exAtSpHl)⟩,
  ⟨0xFF, 0x7E, false, fun _ => some (.done .popIp)⟩,
  ⟨0xFF, 0x76, false, fun _ => some (.done .pushIp)⟩,
  ⟨0xCF, 0x4A, false, fun b => some (.done (.adcHlSs (SS.ofCode (fld2 b 4))))⟩,
  ⟨0xCF, 0x42, false, fun b => some (.done (.sbcHlSs (SS.ofCode (fld2 b 4))))⟩,
  ⟨0xFF, 0x44, false, fun _ => some (.done .neg)⟩]

/-- Page ED (`30_encoding.md` R128), part 2. -/
def edRows1 : List OpRow := [
  ⟨0xFF, 0xA8, false, fun _ => some (.done .ldd)⟩,
  ⟨0xFF, 0xB8, false, fun _ => some (.done .lddr)⟩,
  ⟨0xFF, 0xA0, false, fun _ => some (.done .ldi)⟩,
  ⟨0xFF, 0xB0, false, fun _ => some (.done .ldir)⟩,
  ⟨0xFF, 0x45, false, fun _ => some (.done .lret)⟩,
  ⟨0xFF, 0x4D, false, fun _ => some (.done .reti)⟩,
  ⟨0xFF, 0x46, false, fun _ => some (.done .ipset0)⟩,
  ⟨0xFF, 0x56, false, fun _ => some (.done .ipset1)⟩,
  ⟨0xFF, 0x4E, false, fun _ => some (.done .ipset2)⟩,
  ⟨0xFF, 0x5E, false, fun _ => some (.done .ipset3)⟩,
  ⟨0xFF, 0x5D, false, fun _ => some (.done .ipres)⟩]

/-- Page ED, the added opcodes apart (`30_encoding.md` R128). -/
def edRows : List OpRow := edRows0 ++ edRows1

/-- Page DD (`30_encoding.md` R129), part 1. -/
def ddRows0 : List OpRow := [
  ⟨0xFF, 0x21, false, fun _ => some (.imm16 (fun mn => .ldIxMn mn))⟩,
  ⟨0xFF, 0x22, false, fun _ => some (.imm16 (fun mn => .ldAtMnIx mn))⟩,
  ⟨0xFF, 0x2A, false, fun _ => some (.imm16 (fun mn => .ldIxAtMn mn))⟩,
  ⟨0xFF, 0x36, false, fun _ => some (.disp8imm8 (fun d n => .ldAtIxDN d n))⟩,
  ⟨0xF8, 0x70, false, fun b => (R8.ofCode (fld3 b 0)).bind fun r => some (.imm8 (fun d => .ldAtIxDR d r))⟩,
  ⟨0xC7, 0x46, false, fun b => (R8.ofCode (fld3 b 3)).bind fun r => some (.imm8 (fun d => .ldRAtIxD r d))⟩,
  ⟨0xFF, 0xF4, false, fun _ => some (.imm8 (fun d => .ldAtHlDHl d))⟩,
  ⟨0xFF, 0xE4, false, fun _ => some (.imm8 (fun d => .ldHlAtHlD d))⟩,
  ⟨0xFF, 0xD4, false, fun _ => some (.imm8 (fun n => .ldAtSpNIx n))⟩,
  ⟨0xFF, 0xC4, false, fun _ => some (.imm8 (fun n => .ldIxAtSpN n))⟩,
  ⟨0xFF, 0x64, false, fun _ => some (.done .ldpAtIxHl)⟩,
  ⟨0xFF, 0x6C, false, fun _ => some (.done .ldpHlAtIx)⟩,
  ⟨0xFF, 0x65, false, fun _ => some (.imm16 (fun mn => .ldpAtMnIx mn))⟩,
  ⟨0xFF, 0x6D, false, fun _ => some (.imm16 (fun mn => .ldpIxAtMn mn))⟩,
  ⟨0xFF, 0x7C, false, fun _ => some (.done .ldHlIx)⟩,
  ⟨0xFF, 0x7D, false, fun _ => some (.done .ldIxHl)⟩,
  ⟨0xFF, 0xF9, false, fun _ => some (.done .ldSpIx)⟩,
  ⟨0xFF, 0xE3, false, fun _ => some (.done .exAtSpIx)⟩,
  ⟨0xFF, 0xE1, false, fun _ => some (.done .popIx)⟩,
  ⟨0xFF, 0xE5, false, fun _ => some (.done .pushIx)⟩]

/-- Page DD (`30_encoding.md` R129), part 2. -/
def ddRows1 : List OpRow := [
  ⟨0xCF, 0x09, false, fun b => some (.done (.addIxXx (XX.ofCode (fld2 b 4))))⟩,
  ⟨0xFF, 0xDC, false, fun _ => some (.done .andIxDe)⟩,
  ⟨0xFF, 0xCC, false, fun _ => some (.done .boolIx)⟩,
  ⟨0xFF, 0x2B, false, fun _ => some (.done .decIx)⟩,
  ⟨0xFF, 0x23, false, fun _ => some (.done .incIx)⟩,
  ⟨0xFF, 0xEC, false, fun _ => some (.done .orIxDe)⟩,
  ⟨0xFF, 0xFC, false, fun _ => some (.done .rrIx)⟩,
  ⟨0xFF, 0x8E, false, fun _ => some (.imm8 (fun d => .adcAAtIxD d))⟩,
  ⟨0xFF, 0x86, false, fun _ => some (.imm8 (fun d => .addAAtIxD d))⟩,
  ⟨0xFF, 0xA6, false, fun _ => some (.imm8 (fun d => .andAtIxD d))⟩,
  ⟨0xFF, 0xBE, false, fun _ => some (.imm8 (fun d => .cpAtIxD d))⟩,
  ⟨0xFF, 0xB6, false, fun _ => some (.imm8 (fun d => .orAtIxD d))⟩,
  ⟨0xFF, 0x9E, false, fun _ => some (.imm8 (fun d => .sbcAAtIxD d))⟩,
  ⟨0xFF, 0x96, false, fun _ => some (.imm8 (fun d => .subAtIxD d))⟩,
  ⟨0xFF, 0xAE, false, fun _ => some (.imm8 (fun d => .xorAtIxD d))⟩,
  ⟨0xFF, 0x35, false, fun _ => some (.imm8 (fun d => .decAtIxD d))⟩,
  ⟨0xFF, 0x34, false, fun _ => some (.imm8 (fun d => .incAtIxD d))⟩,
  ⟨0xFF, 0xE9, false, fun _ => some (.done .jpAtIx)⟩]

/-- Page DD (`30_encoding.md` R129). -/
def ddRows : List OpRow := ddRows0 ++ ddRows1

/-- Page FD (`30_encoding.md` R129), part 1. -/
def fdRows0 : List OpRow := [
  ⟨0xFF, 0x21, false, fun _ => some (.imm16 (fun mn => .ldIyMn mn))⟩,
  ⟨0xFF, 0x22, false, fun _ => some (.imm16 (fun mn => .ldAtMnIy mn))⟩,
  ⟨0xFF, 0x2A, false, fun _ => some (.imm16 (fun mn => .ldIyAtMn mn))⟩,
  ⟨0xFF, 0x36, false, fun _ => some (.disp8imm8 (fun d n => .ldAtIyDN d n))⟩,
  ⟨0xF8, 0x70, false, fun b => (R8.ofCode (fld3 b 0)).bind fun r => some (.imm8 (fun d => .ldAtIyDR d r))⟩,
  ⟨0xC7, 0x46, false, fun b => (R8.ofCode (fld3 b 3)).bind fun r => some (.imm8 (fun d => .ldRAtIyD r d))⟩,
  ⟨0xFF, 0xD4, false, fun _ => some (.imm8 (fun n => .ldAtSpNIy n))⟩,
  ⟨0xFF, 0xC4, false, fun _ => some (.imm8 (fun n => .ldIyAtSpN n))⟩,
  ⟨0xFF, 0xF4, false, fun _ => some (.imm8 (fun d => .ldAtIyDHl d))⟩,
  ⟨0xFF, 0xE4, false, fun _ => some (.imm8 (fun d => .ldHlAtIyD d))⟩,
  ⟨0xFF, 0x64, false, fun _ => some (.done .ldpAtIyHl)⟩,
  ⟨0xFF, 0x6C, false, fun _ => some (.done .ldpHlAtIy)⟩,
  ⟨0xFF, 0x65, false, fun _ => some (.imm16 (fun mn => .ldpAtMnIy mn))⟩,
  ⟨0xFF, 0x6D, false, fun _ => some (.imm16 (fun mn => .ldpIyAtMn mn))⟩,
  ⟨0xFF, 0x7C, false, fun _ => some (.done .ldHlIy)⟩,
  ⟨0xFF, 0x7D, false, fun _ => some (.done .ldIyHl)⟩,
  ⟨0xFF, 0xF9, false, fun _ => some (.done .ldSpIy)⟩,
  ⟨0xFF, 0xE3, false, fun _ => some (.done .exAtSpIy)⟩,
  ⟨0xFF, 0xE1, false, fun _ => some (.done .popIy)⟩,
  ⟨0xFF, 0xE5, false, fun _ => some (.done .pushIy)⟩]

/-- Page FD (`30_encoding.md` R129), part 2. -/
def fdRows1 : List OpRow := [
  ⟨0xCF, 0x09, false, fun b => some (.done (.addIyYy (YY.ofCode (fld2 b 4))))⟩,
  ⟨0xFF, 0xDC, false, fun _ => some (.done .andIyDe)⟩,
  ⟨0xFF, 0xCC, false, fun _ => some (.done .boolIy)⟩,
  ⟨0xFF, 0x2B, false, fun _ => some (.done .decIy)⟩,
  ⟨0xFF, 0x23, false, fun _ => some (.done .incIy)⟩,
  ⟨0xFF, 0xEC, false, fun _ => some (.done .orIyDe)⟩,
  ⟨0xFF, 0xFC, false, fun _ => some (.done .rrIy)⟩,
  ⟨0xFF, 0x8E, false, fun _ => some (.imm8 (fun d => .adcAAtIyD d))⟩,
  ⟨0xFF, 0x86, false, fun _ => some (.imm8 (fun d => .addAAtIyD d))⟩,
  ⟨0xFF, 0xA6, false, fun _ => some (.imm8 (fun d => .andAtIyD d))⟩,
  ⟨0xFF, 0xBE, false, fun _ => some (.imm8 (fun d => .cpAtIyD d))⟩,
  ⟨0xFF, 0xB6, false, fun _ => some (.imm8 (fun d => .orAtIyD d))⟩,
  ⟨0xFF, 0x9E, false, fun _ => some (.imm8 (fun d => .sbcAAtIyD d))⟩,
  ⟨0xFF, 0x96, false, fun _ => some (.imm8 (fun d => .subAtIyD d))⟩,
  ⟨0xFF, 0xAE, false, fun _ => some (.imm8 (fun d => .xorAtIyD d))⟩,
  ⟨0xFF, 0x35, false, fun _ => some (.imm8 (fun d => .decAtIyD d))⟩,
  ⟨0xFF, 0x34, false, fun _ => some (.imm8 (fun d => .incAtIyD d))⟩,
  ⟨0xFF, 0xE9, false, fun _ => some (.done .jpAtIy)⟩]

/-- Page FD (`30_encoding.md` R129). -/
def fdRows : List OpRow := fdRows0 ++ fdRows1

/-- Page DD CB (`30_encoding.md` R130), part 1. -/
def ddcbRows0 : List OpRow := [
  ⟨0xC7, 0x46, false, fun b => some (.imm8 (fun d => .bitBAtIxD (fld3 b 3) d))⟩,
  ⟨0xC7, 0x86, false, fun b => some (.imm8 (fun d => .resBAtIxD (fld3 b 3) d))⟩,
  ⟨0xC7, 0xC6, false, fun b => some (.imm8 (fun d => .setBAtIxD (fld3 b 3) d))⟩,
  ⟨0xFF, 0x16, false, fun _ => some (.imm8 (fun d => .rlAtIxD d))⟩,
  ⟨0xFF, 0x06, false, fun _ => some (.imm8 (fun d => .rlcAtIxD d))⟩,
  ⟨0xFF, 0x1E, false, fun _ => some (.imm8 (fun d => .rrAtIxD d))⟩,
  ⟨0xFF, 0x0E, false, fun _ => some (.imm8 (fun d => .rrcAtIxD d))⟩,
  ⟨0xFF, 0x26, false, fun _ => some (.imm8 (fun d => .slaAtIxD d))⟩,
  ⟨0xFF, 0x2E, false, fun _ => some (.imm8 (fun d => .sraAtIxD d))⟩,
  ⟨0xFF, 0x3E, false, fun _ => some (.imm8 (fun d => .srlAtIxD d))⟩]

/-- Page DD CB (`30_encoding.md` R130). -/
def ddcbRows : List OpRow := ddcbRows0

/-- Page FD CB (`30_encoding.md` R130), part 1. -/
def fdcbRows0 : List OpRow := [
  ⟨0xC7, 0x46, false, fun b => some (.imm8 (fun d => .bitBAtIyD (fld3 b 3) d))⟩,
  ⟨0xC7, 0x86, false, fun b => some (.imm8 (fun d => .resBAtIyD (fld3 b 3) d))⟩,
  ⟨0xC7, 0xC6, false, fun b => some (.imm8 (fun d => .setBAtIyD (fld3 b 3) d))⟩,
  ⟨0xFF, 0x16, false, fun _ => some (.imm8 (fun d => .rlAtIyD d))⟩,
  ⟨0xFF, 0x06, false, fun _ => some (.imm8 (fun d => .rlcAtIyD d))⟩,
  ⟨0xFF, 0x1E, false, fun _ => some (.imm8 (fun d => .rrAtIyD d))⟩,
  ⟨0xFF, 0x0E, false, fun _ => some (.imm8 (fun d => .rrcAtIyD d))⟩,
  ⟨0xFF, 0x26, false, fun _ => some (.imm8 (fun d => .slaAtIyD d))⟩,
  ⟨0xFF, 0x2E, false, fun _ => some (.imm8 (fun d => .sraAtIyD d))⟩,
  ⟨0xFF, 0x3E, false, fun _ => some (.imm8 (fun d => .srlAtIyD d))⟩]

/-- Page FD CB (`30_encoding.md` R130). -/
def fdcbRows : List OpRow := fdcbRows0

/-- Looks an opcode byte up in a page and reads its operand bytes. -/
def decodePage (rev : Rev) (page : String) (rows : List OpRow) (op : Byte) (rest : List Byte) :
    Except DecodeError (Instr × List Byte) :=
  match rows.findSome? (OpRow.select rev op) with
  | some f => f.read rest
  | none => .error (.unassigned page op)

/-- The byte after the page byte CB (`30_encoding.md` R125). -/
def decodeCb (rev : Rev) : List Byte → Except DecodeError (Instr × List Byte)
  | op :: rest => decodePage rev "CB" cbRows op rest
  | [] => .error .outOfBytes

/-- The instruction of one of the fourteen names of `R3000A_OPCODES`. -/
def Added.instr : Added → Instr
  | .uma => .uma
  | .ums => .ums
  | .lddsr => .lddsr
  | .ldisr => .ldisr
  | .lsdr => .lsdr
  | .lsir => .lsir
  | .lsddr => .lsddr
  | .lsidr => .lsidr
  | .setusr => .setusr
  | .pushSu => .pushSu
  | .popSu => .popSu
  | .sures => .sures
  | .rdmode => .rdmode
  | .syscall => .syscall

/-- The added instruction an opcode byte of page ED names; none on the original chip (`30_encoding.md` R133, log 12). -/
def OpcodeMap.at (ops : OpcodeMap) (rev : Rev) (op : Byte) : Option Instr :=
  match rev with
  | .r3000 => none
  | .r3000A => (ops.find? fun x => decide (x.2 = op)).map fun x => x.1.instr

/-- What `R3000A_OPCODES` must be: each of its names once, each of its bytes once, and only slots page ED leaves unassigned
(`93_implementation_defined.md` section 3). -/
def OpcodeMap.ok (ops : OpcodeMap) : Bool :=
  decide (ops.map Prod.fst).Nodup && decide (ops.map Prod.snd).Nodup &&
    ops.all fun x => (edRows.findSome? (OpRow.select .r3000A x.2)).isNone

/-- The byte after ED: the page's own rows, then the added opcodes (`30_encoding.md` R128, R133). -/
def decodeEd (rev : Rev) (ops : OpcodeMap) : List Byte → Except DecodeError (Instr × List Byte)
  | op :: rest =>
    match edRows.findSome? (OpRow.select rev op), ops.at rev op with
    | some f, _ => f.read rest
    | none, some i => .ok (i, rest)
    | none, none => .error (.unassigned "ED" op)
  | [] => .error .outOfBytes

/-- The bytes after a page byte DD or FD; after a further CB the displacement comes before the last opcode byte
(`30_encoding.md` R125, R130). -/
def decodeIndexed (rev : Rev) (page pageCb : String) (rows rowsCb : List OpRow) :
    List Byte → Except DecodeError (Instr × List Byte)
  | op :: rest =>
    if op = 0xCB then
      match rest with
      | d :: op3 :: rest3 => decodePage rev pageCb rowsCb op3 (d :: rest3)
      | _ => .error .outOfBytes
    else decodePage rev page rows op rest
  | [] => .error .outOfBytes

/-- The byte after 0x76: the two exchanges whose manual encoding contains the ALTD byte, else the prefix alone
(`30_encoding.md` R131, R132). -/
def decodeAltd : List Byte → Instr × List Byte
  | op :: rest => if op = 0xE3 then (.exDeaHla, rest) else if op = 0xEB then (.exDeHla, rest) else (.altd, op :: rest)
  | [] => (.altd, [])

/-- Reads one instruction from the front of the bytes and gives the bytes after it (`30_encoding.md` R125).  A prefix is
an instruction of its own here; its latch is applied when it runs (log 17). -/
def decode (rev : Rev) (ops : OpcodeMap) : List Byte → Except DecodeError (Instr × List Byte)
  | [] => .error .outOfBytes
  | b0 :: rest =>
    if b0 = 0x76 then .ok (decodeAltd rest)
    else if b0 = 0xCB then decodeCb rev rest
    else if b0 = 0xED then decodeEd rev ops rest
    else if b0 = 0xDD then decodeIndexed rev "DD" "DD CB" ddRows ddcbRows rest
    else if b0 = 0xFD then decodeIndexed rev "FD" "FD CB" fdRows fdcbRows rest
    else decodePage rev "main" mainRows b0 rest

/-- The bytes of an added instruction: ED and the byte the map gives it; none where it gives none. -/
def OpcodeMap.bytes (ops : OpcodeMap) (n : Added) : List Byte :=
  match ops.lookup n with
  | some b => [0xED, b]
  | none => []

/-- The bytes of an instruction, in fetch order (the encodings of `opcode_table.json`; `30_encoding.md` R121, R122; the
fourteen added ones from `R3000A_OPCODES`). -/
def encode (ops : OpcodeMap) : Instr → List Byte
  | .ldIxMn mn => [0xDD, 0x21, loByte mn, hiByte mn]
  | .ldIyMn mn => [0xFD, 0x21, loByte mn, hiByte mn]
  | .ldDdMn dd mn => [0b00#2 ++ dd.code ++ 0b0001#4, loByte mn, hiByte mn]
  | .ldRN r n => [0b00#2 ++ r.code ++ 0b110#3, n]
  | .ldAtMnA mn => [0x32, loByte mn, hiByte mn]
  | .ldAAtMn mn => [0x3A, loByte mn, hiByte mn]
  | .ldAtMnHl mn => [0x22, loByte mn, hiByte mn]
  | .ldAtMnIx mn => [0xDD, 0x22, loByte mn, hiByte mn]
  | .ldAtMnIy mn => [0xFD, 0x22, loByte mn, hiByte mn]
  | .ldAtMnSs mn ss => [0xED, 0b01#2 ++ ss.code ++ 0b0011#4, loByte mn, hiByte mn]
  | .ldHlAtMn mn => [0x2A, loByte mn, hiByte mn]
  | .ldIxAtMn mn => [0xDD, 0x2A, loByte mn, hiByte mn]
  | .ldIyAtMn mn => [0xFD, 0x2A, loByte mn, hiByte mn]
  | .ldDdAtMn dd mn => [0xED, 0b01#2 ++ dd.code ++ 0b1011#4, loByte mn, hiByte mn]
  | .ldAAtBc => [0x0A]
  | .ldAAtDe => [0x1A]
  | .ldAtBcA => [0x02]
  | .ldAtDeA => [0x12]
  | .ldAtHlN n => [0x36, n]
  | .ldAtHlR r => [0b01110#5 ++ r.code]
  | .ldRAtHl r => [0b01#2 ++ r.code ++ 0b110#3]
  | .ldAtIxDN d n => [0xDD, 0x36, d, n]
  | .ldAtIxDR d r => [0xDD, 0b01110#5 ++ r.code, d]
  | .ldRAtIxD r d => [0xDD, 0b01#2 ++ r.code ++ 0b110#3, d]
  | .ldAtIyDN d n => [0xFD, 0x36, d, n]
  | .ldAtIyDR d r => [0xFD, 0b01110#5 ++ r.code, d]
  | .ldRAtIyD r d => [0xFD, 0b01#2 ++ r.code ++ 0b110#3, d]
  | .ldAtHlDHl d => [0xDD, 0xF4, d]
  | .ldHlAtHlD d => [0xDD, 0xE4, d]
  | .ldAtSpNHl n => [0xD4, n]
  | .ldAtSpNIx n => [0xDD, 0xD4, n]
  | .ldAtSpNIy n => [0xFD, 0xD4, n]
  | .ldHlAtSpN n => [0xC4, n]
  | .ldIxAtSpN n => [0xDD, 0xC4, n]
  | .ldIyAtSpN n => [0xFD, 0xC4, n]
  | .ldAtIxDHl d => [0xF4, d]
  | .ldHlAtIxD d => [0xE4, d]
  | .ldAtIyDHl d => [0xFD, 0xF4, d]
  | .ldHlAtIyD d => [0xFD, 0xE4, d]
  | .ldpAtHlHl => [0xED, 0x64]
  | .ldpAtIxHl => [0xDD, 0x64]
  | .ldpAtIyHl => [0xFD, 0x64]
  | .ldpHlAtHl => [0xED, 0x6C]
  | .ldpHlAtIx => [0xDD, 0x6C]
  | .ldpHlAtIy => [0xFD, 0x6C]
  | .ldpAtMnHl mn => [0xED, 0x65, loByte mn, hiByte mn]
  | .ldpAtMnIx mn => [0xDD, 0x65, loByte mn, hiByte mn]
  | .ldpAtMnIy mn => [0xFD, 0x65, loByte mn, hiByte mn]
  | .ldpHlAtMn mn => [0xED, 0x6D, loByte mn, hiByte mn]
  | .ldpIxAtMn mn => [0xDD, 0x6D, loByte mn, hiByte mn]
  | .ldpIyAtMn mn => [0xFD, 0x6D, loByte mn, hiByte mn]
  | .ldRG r g => [0b01#2 ++ r.code ++ g.code]
  | .ldAEir => [0xED, 0x57]
  | .ldAIir => [0xED, 0x5F]
  | .ldAXpc => [0xED, 0x77]
  | .ldEirA => [0xED, 0x47]
  | .ldIirA => [0xED, 0x4F]
  | .ldXpcA => [0xED, 0x67]
  | .ldHlIx => [0xDD, 0x7C]
  | .ldHlIy => [0xFD, 0x7C]
  | .ldIxHl => [0xDD, 0x7D]
  | .ldIyHl => [0xFD, 0x7D]
  | .ldSpHl => [0xF9]
  | .ldSpIx => [0xDD, 0xF9]
  | .ldSpIy => [0xFD, 0xF9]
  | .ldDdaBc dd => [0xED, 0b01#2 ++ dd.code ++ 0b1001#4]
  | .ldDdaDe dd => [0xED, 0b01#2 ++ dd.code ++ 0b0001#4]
  | .exAtSpHl => [0xED, 0x54]
  | .exAtSpIx => [0xDD, 0xE3]
  | .exAtSpIy => [0xFD, 0xE3]
  | .exAfAfa => [0x08]
  | .exDeaHl => [0xE3]
  | .exDeaHla => [0x76, 0xE3]
  | .exDeHl => [0xEB]
  | .exDeHla => [0x76, 0xEB]
  | .exx => [0xD9]
  | .popIp => [0xED, 0x7E]
  | .popIx => [0xDD, 0xE1]
  | .popIy => [0xFD, 0xE1]
  | .popZz zz => [0b11#2 ++ zz.code ++ 0b0001#4]
  | .pushIp => [0xED, 0x76]
  | .pushIx => [0xDD, 0xE5]
  | .pushIy => [0xFD, 0xE5]
  | .pushZz zz => [0b11#2 ++ zz.code ++ 0b0101#4]
  | .addSpD d => [0x27, d]
  | .adcHlSs ss => [0xED, 0b01#2 ++ ss.code ++ 0b1010#4]
  | .addHlSs ss => [0b00#2 ++ ss.code ++ 0b1001#4]
  | .addIxXx xx => [0xDD, 0b00#2 ++ xx.code ++ 0b1001#4]
  | .addIyYy yy => [0xFD, 0b00#2 ++ yy.code ++ 0b1001#4]
  | .andHlDe => [0xDC]
  | .andIxDe => [0xDD, 0xDC]
  | .andIyDe => [0xFD, 0xDC]
  | .boolHl => [0xCC]
  | .boolIx => [0xDD, 0xCC]
  | .boolIy => [0xFD, 0xCC]
  | .decIx => [0xDD, 0x2B]
  | .decIy => [0xFD, 0x2B]
  | .decSs ss => [0b00#2 ++ ss.code ++ 0b1011#4]
  | .incIx => [0xDD, 0x23]
  | .incIy => [0xFD, 0x23]
  | .incSs ss => [0b00#2 ++ ss.code ++ 0b0011#4]
  | .mul => [0xF7]
  | .orHlDe => [0xEC]
  | .orIxDe => [0xDD, 0xEC]
  | .orIyDe => [0xFD, 0xEC]
  | .rlDe => [0xF3]
  | .rrDe => [0xFB]
  | .rrHl => [0xFC]
  | .rrIx => [0xDD, 0xFC]
  | .rrIy => [0xFD, 0xFC]
  | .sbcHlSs ss => [0xED, 0b01#2 ++ ss.code ++ 0b0010#4]
  | .adcAAtHl => [0x8E]
  | .adcAAtIxD d => [0xDD, 0x8E, d]
  | .adcAAtIyD d => [0xFD, 0x8E, d]
  | .adcAN n => [0xCE, n]
  | .adcAR r => [0b10001#5 ++ r.code]
  | .addAAtHl => [0x86]
  | .addAAtIxD d => [0xDD, 0x86, d]
  | .addAAtIyD d => [0xFD, 0x86, d]
  | .addAN n => [0xC6, n]
  | .addAR r => [0b10000#5 ++ r.code]
  | .andAtHl => [0xA6]
  | .andAtIxD d => [0xDD, 0xA6, d]
  | .andAtIyD d => [0xFD, 0xA6, d]
  | .andN n => [0xE6, n]
  | .andR r => [0b10100#5 ++ r.code]
  | .cpAtHl => [0xBE]
  | .cpAtIxD d => [0xDD, 0xBE, d]
  | .cpAtIyD d => [0xFD, 0xBE, d]
  | .cpN n => [0xFE, n]
  | .cpR r => [0b10111#5 ++ r.code]
  | .orAtHl => [0xB6]
  | .orAtIxD d => [0xDD, 0xB6, d]
  | .orAtIyD d => [0xFD, 0xB6, d]
  | .orN n => [0xF6, n]
  | .orR r => [0b10110#5 ++ r.code]
  | .sbcAAtHl => [0x9E]
  | .sbcAAtIxD d => [0xDD, 0x9E, d]
  | .sbcAAtIyD d => [0xFD, 0x9E, d]
  | .sbcAN n => [0xDE, n]
  | .sbcAR r => [0b10011#5 ++ r.code]
  | .subAtHl => [0x96]
  | .subAtIxD d => [0xDD, 0x96, d]
  | .subAtIyD d => [0xFD, 0x96, d]
  | .subN n => [0xD6, n]
  | .subR r => [0b10010#5 ++ r.code]
  | .xorAtHl => [0xAE]
  | .xorAtIxD d => [0xDD, 0xAE, d]
  | .xorAtIyD d => [0xFD, 0xAE, d]
  | .xorN n => [0xEE, n]
  | .xorR r => [0b10101#5 ++ r.code]
  | .decAtHl => [0x35]
  | .decAtIxD d => [0xDD, 0x35, d]
  | .decAtIyD d => [0xFD, 0x35, d]
  | .decR r => [0b00#2 ++ r.code ++ 0b101#3]
  | .incAtHl => [0x34]
  | .incAtIxD d => [0xDD, 0x34, d]
  | .incAtIyD d => [0xFD, 0x34, d]
  | .incR r => [0b00#2 ++ r.code ++ 0b100#3]
  | .cpl => [0x2F]
  | .neg => [0xED, 0x44]
  | .rla => [0x17]
  | .rlca => [0x07]
  | .rra => [0x1F]
  | .rrca => [0x0F]
  | .bitBAtHl b => [0xCB, 0b01#2 ++ b ++ 0b110#3]
  | .bitBAtIxD b d => [0xDD, 0xCB, d, 0b01#2 ++ b ++ 0b110#3]
  | .bitBAtIyD b d => [0xFD, 0xCB, d, 0b01#2 ++ b ++ 0b110#3]
  | .bitBR b r => [0xCB, 0b01#2 ++ b ++ r.code]
  | .resBAtHl b => [0xCB, 0b10#2 ++ b ++ 0b110#3]
  | .resBAtIxD b d => [0xDD, 0xCB, d, 0b10#2 ++ b ++ 0b110#3]
  | .resBAtIyD b d => [0xFD, 0xCB, d, 0b10#2 ++ b ++ 0b110#3]
  | .resBR b r => [0xCB, 0b10#2 ++ b ++ r.code]
  | .setBAtHl b => [0xCB, 0b11#2 ++ b ++ 0b110#3]
  | .setBAtIxD b d => [0xDD, 0xCB, d, 0b11#2 ++ b ++ 0b110#3]
  | .setBAtIyD b d => [0xFD, 0xCB, d, 0b11#2 ++ b ++ 0b110#3]
  | .setBR b r => [0xCB, 0b11#2 ++ b ++ r.code]
  | .rlAtHl => [0xCB, 0x16]
  | .rlAtIxD d => [0xDD, 0xCB, d, 0x16]
  | .rlAtIyD d => [0xFD, 0xCB, d, 0x16]
  | .rlR r => [0xCB, 0b00010#5 ++ r.code]
  | .rlcAtHl => [0xCB, 0x06]
  | .rlcAtIxD d => [0xDD, 0xCB, d, 0x06]
  | .rlcAtIyD d => [0xFD, 0xCB, d, 0x06]
  | .rlcR r => [0xCB, 0b00000#5 ++ r.code]
  | .rrAtHl => [0xCB, 0x1E]
  | .rrAtIxD d => [0xDD, 0xCB, d, 0x1E]
  | .rrAtIyD d => [0xFD, 0xCB, d, 0x1E]
  | .rrR r => [0xCB, 0b00011#5 ++ r.code]
  | .rrcAtHl => [0xCB, 0x0E]
  | .rrcAtIxD d => [0xDD, 0xCB, d, 0x0E]
  | .rrcAtIyD d => [0xFD, 0xCB, d, 0x0E]
  | .rrcR r => [0xCB, 0b00001#5 ++ r.code]
  | .slaAtHl => [0xCB, 0x26]
  | .slaAtIxD d => [0xDD, 0xCB, d, 0x26]
  | .slaAtIyD d => [0xFD, 0xCB, d, 0x26]
  | .slaR r => [0xCB, 0b00100#5 ++ r.code]
  | .sraAtHl => [0xCB, 0x2E]
  | .sraAtIxD d => [0xDD, 0xCB, d, 0x2E]
  | .sraAtIyD d => [0xFD, 0xCB, d, 0x2E]
  | .sraR r => [0xCB, 0b00101#5 ++ r.code]
  | .srlAtHl => [0xCB, 0x3E]
  | .srlAtIxD d => [0xDD, 0xCB, d, 0x3E]
  | .srlAtIyD d => [0xFD, 0xCB, d, 0x3E]
  | .srlR r => [0xCB, 0b00111#5 ++ r.code]
  | .altd => [0x76]
  | .ioi => [0xD3]
  | .ioe => [0xDB]
  | .ldd => [0xED, 0xA8]
  | .lddr => [0xED, 0xB8]
  | .ldi => [0xED, 0xA0]
  | .ldir => [0xED, 0xB0]
  | .callMn mn => [0xCD, loByte mn, hiByte mn]
  | .djnzE e => [0x10, e]
  | .jpAtHl => [0xE9]
  | .jpAtIx => [0xDD, 0xE9]
  | .jpAtIy => [0xFD, 0xE9]
  | .jpFMn f mn => [0b11#2 ++ f.code ++ 0b010#3, loByte mn, hiByte mn]
  | .jpMn mn => [0xC3, loByte mn, hiByte mn]
  | .jrCcE cc e => [0b001#3 ++ cc.code ++ 0b000#3, e]
  | .jrE e => [0x18, e]
  | .lcallXMn x mn => [0xCF, loByte mn, hiByte mn, x]
  | .ljpXMn x mn => [0xC7, loByte mn, hiByte mn, x]
  | .lret => [0xED, 0x45]
  | .ret => [0xC9]
  | .retF f => [0b11#2 ++ f.code ++ 0b000#3]
  | .reti => [0xED, 0x4D]
  | .rstV v => [0b11#2 ++ v.code ++ 0b111#3]
  | .ccf => [0x3F]
  | .ipset0 => [0xED, 0x46]
  | .ipset1 => [0xED, 0x56]
  | .ipset2 => [0xED, 0x4E]
  | .ipset3 => [0xED, 0x5E]
  | .ipres => [0xED, 0x5D]
  | .nop => [0x00]
  | .scf => [0x37]
  | .uma => ops.bytes .uma
  | .ums => ops.bytes .ums
  | .lddsr => ops.bytes .lddsr
  | .ldisr => ops.bytes .ldisr
  | .lsdr => ops.bytes .lsdr
  | .lsir => ops.bytes .lsir
  | .lsddr => ops.bytes .lsddr
  | .lsidr => ops.bytes .lsidr
  | .setusr => ops.bytes .setusr
  | .pushSu => ops.bytes .pushSu
  | .popSu => ops.bytes .popSu
  | .sures => ops.bytes .sures
  | .idet => [0x5B]
  | .rdmode => ops.bytes .rdmode
  | .syscall => ops.bytes .syscall

/-- The `n` bytes of a number, the most significant byte first. -/
def bytesHighFirst (n w : Nat) : List Byte := (List.range n).map fun i => BitVec.ofNat 8 (w >>> (8 * (n - 1 - i)))

/-- The `n` bytes of a number, the least significant byte first. -/
def bytesLowFirst (n w : Nat) : List Byte := (List.range n).map fun i => BitVec.ofNat 8 (w >>> (8 * i))

/-- The longest instruction's length (`30_encoding.md` R120). -/
def maxLength : Nat := 4

/-- `bs` followed by zeros, up to the longest instruction. -/
def padBytes (bs : List Byte) : List Byte := bs ++ List.replicate (maxLength - bs.length) 0

/-- The instruction the decoder reads from these bytes and zeros after them, if it takes at least these bytes. -/
def decodeWhole (bs : List Byte) : Option Instr :=
  match decode .r3000A OpcodeMap.default (padBytes bs) with
  | .ok (i, rest) => if bs.length + rest.length ≤ (padBytes bs).length then some i else none
  | .error _ => none

/-- The bytes of a table word in fetch order.  `opcode_table.json` numbers a row's bits with the first fetched byte most
significant; where the word so read is no instruction of that length the other byte order is taken (log 38). -/
def tableBytes (nbits w : Nat) : List Byte :=
  let hi := bytesHighFirst (nbits / 8) w
  let lo := bytesLowFirst (nbits / 8) w
  match decodeWhole hi, decodeWhole lo with
  | some _, _ => hi
  | none, some _ => lo
  | none, none => hi

/-- The instruction the decoder reads from the table word `w` of `nbits` bits (REV = R3000A and the default
`R3000A_OPCODES`, those of `State.reset`). -/
def decodeTableWord (nbits w : Nat) : Option Instr := decodeWhole (tableBytes nbits w)

end Sys2Proof
end

