-- ==== Sys2Proof/Machine/Fetch.lean ====
section
/-! DEFINITION. Fetching an instruction: its bytes at the program counter, and what the decoder makes of them
(`00_scope.md` R11, `20_memory.md` R61, R68, R82; `30_encoding.md` R120, R135). -/
namespace Sys2Proof.Machine

/-- `n` bytes fetched at rising logical addresses, wrapping at 2^16 (`10_state.md` R25, D6). -/
def State.fetchBytes (s : State) : Nat → Word → List Byte × State
  | 0, _ => ([], s)
  | n + 1, a =>
    let b := s.fetchRead a
    let rest := State.fetchBytes b.2 n (a + 1)
    (b.1 :: rest.1, rest.2)

/-- What stands at the program counter: the bytes of the longest instruction, read as the decoder's input. -/
def State.fetched (s : State) : List Byte × State := s.fetchBytes maxLength s.cpu.pc

/-- The instruction at the program counter, how many bytes it has, and the state after its fetch; or the decoder's error. -/
def State.fetchInstr (s : State) : Except DecodeError (Instr × Nat × State) :=
  match decode s.cfg.rev s.cfg.opcodes s.fetched.1 with
  | .ok (i, rest) => .ok (i, maxLength - rest.length, s.fetched.2)
  | .error e => .error e

/-- No prefix is latched: the boundary before an instruction (`46_prefix_block.md` R474). -/
def State.atBoundary (s : State) : Bool := !s.cpu.altd && decide (s.cpu.iospace = .memory)

/-- The state in which a fetched instruction of `n` bytes runs: the program counter past it, and the address of the first
byte, prefixes included, remembered (`46_prefix_block.md` R486, log 17, 23). -/
def State.advance (s : State) (n : Nat) : State :=
  { s with cpu := { s.cpu with
      pc := s.cpu.pc + BitVec.ofNat 16 n
      start := if s.atBoundary then s.cpu.pc else s.cpu.start } }

/-- The refusal of bytes that are no instruction (`30_encoding.md` R135, D11, log 21). -/
def decodeRefusal : DecodeError → Refusal
  | .unassigned page op => .unassignedOpcode page op
  | .outOfBytes => .unassignedOpcode "incomplete" 0

/-- The memory with bytes placed where a fetch at rising addresses from `a` reads them. -/
def State.placeBytes (s : State) : List Byte → Word → List Host.Cell → List Host.Cell
  | [], _, m => m
  | b :: bs, a, m => State.placeBytes s bs (a + 1) (cellWrite m (s.fetchCell a) b)

end Sys2Proof.Machine
end

