-- ==== Sys2Proof/Machine/Run.lean ====
section
/-! DEFINITION. What one step is made of: a step of the CPU, and what an event of the outside world does. -/
namespace Sys2Proof.Machine

/-- The instruction at the program counter runs (`10_state.md` R25, `30_encoding.md` R120, R135). -/
def State.runInstr (s : State) : Result :=
  match s.fetchInstr with
  | .ok (i, n, t) => exec i (t.advance n)
  | .error e => .refused (decodeRefusal e)

/-- A step of the CPU: the bootstrap while it has control; at a boundary a due interrupt, then an intercepted fetch; else
the next instruction (`60_exceptions.md` R610, `70_reset_and_hazards.md` R910, R911). -/
def State.cpuStep (s : State) : Result :=
  if s.dev.boot.active then s.bootStep
  else if s.atBoundary then
    match s.interruptDue with
    | some src => s.takeInterrupt src
    | none => if s.bootIntercepts then .next s.bootEnter else s.runInstr
  else s.runInstr

/-- A step of the CPU that a reset falls into after `k` of its byte writes: the write under way is completed and the rest is
abandoned, its registers with it; a step with fewer writes completes (`70_reset_and_hazards.md` R900, log 42). -/
def State.cpuStepCut (s : State) (k : Nat) : Result :=
  andThen ({ s with writesLeft := some k }).cpuStep fun t =>
    .next { t with cpu := if t.writesLeft = some 0 then s.cpu else t.cpu, writesLeft := none }

/-- The /RESET pin acts inside a step of the CPU (`70_reset_and_hazards.md` R900). -/
def State.resetInside (s : State) (k : Nat) : Result := andThen (s.cpuStepCut k) fun t => .next t.resetPin

/-- A cycle of the 32.768 kHz oscillator ends inside a step of the CPU: where the watchdog times out on it, the step is cut
short; else the step is whole (`61_system_management.md` R682, `70_reset_and_hazards.md` R900). -/
def State.clk32kInside (s : State) (k : Nat) : Result :=
  andThen (s.cpuStepCut k) fun t =>
    if t.dev.wdt.expires then .next t.tick32k else andThen s.cpuStep fun u => .next u.tick32k.testClocked

/-- What an event of the outside world does (log 18, 19). -/
def State.deliver (s : State) (e : HostEvent) : Result :=
  match e with
  | .perclk n => .next ({ s with dev := perclkTicks s.cfg n s.dev }).testClocked
  | .clk32k n => .next (State.ticks32k n s).testClocked
  | .perclkInside n => .next { s with dev := { s.dev with inside := n } }
  | .clk32kInside k => s.clk32kInside k
  | .pins p v => .next (s.onDev { s.dev with pins := s.dev.pins.put p v })
  | .smode v => .next { s with dev := { s.dev with smode := v } }
  | .reset => .next s.resetPin
  | .resetInside k => s.resetInside k
  | .extAnswer vs => .next { s with dev := { s.dev with extIn := s.dev.extIn ++ vs } }
  | .serialChar p v ninth => s.charArrives p v ninth
  | .serialStart p => .next (s.onDev (serialStartEvent s.cfg s.dev p))
  | .serialBreakEnd p => .next (s.onDev (serialBreakEvent s.cfg s.dev p))
  | .serialTxDone p => .next (s.onDev (serialTxDoneEvent s.cfg s.dev p))
  | .serialBurstStart p => .next (s.onDev (serialBurstStartEvent s.dev p))
  | .serialClock p level => .next (s.onDev (serialClockEvent s.cfg s.dev p level))
  | .serialBurst p v => s.burstArrives p v
  | .hdlcByte p v s6 s4 short => .next (s.onDev (hdlcByteEvent s.cfg s.dev p v s6 s4 short))
  | .hdlcFlag p => .next (s.onDev (hdlcFlagEvent s.dev p))
  | .masterRead a =>
    .next (s.slaveAccess (({ s.dev with slave := (s.dev.slave.masterRead a).2 }).show
      (.masterRead a (s.dev.slave.masterRead a).1)))
  | .masterWrite a v => .next (s.slaveAccess { s.dev with slave := s.dev.slave.masterWrite a v })

end Sys2Proof.Machine
end

