-- ==== Sys2Proof/Machine/Step.lean ====
section
/-! DEFINITION. One step of the machine. -/
namespace Sys2Proof.Machine

/-- One step: an event of the outside world that is due, else a step of the CPU (log 19). -/
def step (s : State) : Host.Outcome State Fault Refusal :=
  match s.inbox with
  | (0, e) :: rest => ({ s with inbox := rest }).deliver e
  | inbox => ({ s with inbox := laterInbox inbox }).cpuStep

/-- `s` with an instruction of the opcode table stored where `step` fetches its next instruction. -/
def State.withFetchWord (s : State) (nbits w : Nat) : State :=
  { s with mem := s.placeBytes (padBytes (tableBytes nbits w)) s.cpu.pc s.mem }

end Sys2Proof.Machine
end

