-- ==== Sys2Proof/Safety.lean ====
section
/-! DEFINITION. The terms claims are stated in: the invariant, what counts as a run that goes on, frames, and the shapes of
instructions (which forms read or store what, where), written from the instruction files of the spec. -/
namespace Sys2Proof.Machine

/-- The reserved bits of the memory management registers, which no write sets (`21_memory_interface.md` R90, R95 to R98,
R101, R106, R108); on REV = R3000 a reset leaves those of MTCR and BDCR unspecified (R97, R98). -/
structure MmuReserved (rev : Rev) (m : Mmu) : Prop where
  mmidr : m.mmidr &&& (match rev with | .r3000 => 0xC0 | .r3000A => 0x40) = 0
  mecr : m.mecr &&& 0xF8 = 0
  mtcr : rev = .r3000A → m.mtcr &&& 0xF0 = 0
  bdcr : rev = .r3000A → m.bdcr &&& 0x7F = 0
  wpcr : m.wpcr &&& 0xFE = 0
  stkcr : m.stkcr &&& 0xFE = 0
  wpsr : ∀ x : Fin 2, m.wpsr[x] &&& 0xF0 = 0

/-- The reserved bits of the other device registers at zero (`60_exceptions.md` R651, `61_system_management.md` R674, R675,
`62_ports_io_banks.md` R723), and never a whole triplet waiting in the boot ROM (`70_reset_and_hazards.md` R910). -/
structure DevInv (rev : Rev) (d : Dev) : Prop where
  mmu : MmuReserved rev d.mmu
  edmr : d.user.edmr &&& 0xFE = 0
  gcdr : d.sys.gcdr &&& 0xF0 = 0
  spreader : d.sys.gcm0r &&& 0x7F = 0 ∧ d.sys.gcm1r &&& 0x7F = 0
  portC : d.ports.pcOut &&& 0xAA = 0 ∧ d.ports.pcfr &&& 0xAA = 0
  boot : d.boot.bytes.length ≤ 2

/-- What every step keeps: memory in its canonical form and the devices' reserved bits at zero. -/
structure MachineInv (s : State) : Prop where
  memory : Memory.wf s.mem = true
  dev : DevInv s.cfg.rev s.dev

/-- A run of `n` steps that nothing ends. -/
def RunsOn (s : State) (n : Nat) : Prop := ∃ t, Sys2Proof.core.run n s = .next t

/-- Every byte of memory is the same in both states. -/
def SameBytes (s t : State) : Prop := ∀ k, cellRead t.mem k = cellRead s.mem k

/-- Every byte of memory outside the cells `ks` is the same in both states. -/
def SameBytesBut (ks : List Nat) (s t : State) : Prop := ∀ k, k ∉ ks → cellRead t.mem k = cellRead s.mem k

/-- The devices are the same but for the count of free values drawn. -/
def SameDevices (s t : State) : Prop := t.dev = { s.dev with free := t.dev.free }

/-- The devices are the same but for that count and the violation requests. -/
def SameDevicesButRequests (s t : State) : Prop := t.dev = { s.dev with free := t.dev.free, viol := t.dev.viol }

/-- The CPU with the register set a result goes to changed: the alternate set under ALTD, else the main one
(`46_prefix_block.md` R470). -/
def dstCpu (c : Cpu) (g : RegSet → RegSet) : Cpu :=
  if c.altd then { c with alt := g c.alt } else { c with main := g c.main }

/-- The CPU with the register set a result goes to changed, and its F. -/
def dstCpuF (c : Cpu) (g : RegSet → RegSet) (f : Byte) : Cpu := dstCpu c fun x => { g x with f := f }

/-- F of the register set a result goes to. -/
def dstF (c : Cpu) : Byte := if c.altd then c.alt.f else c.main.f

/-- The four unused bits of F are the same (`10_state.md` R32). -/
def SameUnused (f g : Byte) : Prop := ∀ k ∈ [1, 3, 4, 5], bit g k = bit f k

/-- `g` is `f` with exactly these four flags. -/
def FlagsAre (f g : Byte) (s z lv c : Bool) : Prop :=
  flagS g = s ∧ flagZ g = z ∧ flagLv g = lv ∧ flagC g = c ∧ SameUnused f g

/-- `g` is `f` with exactly these S, Z and L/V. -/
def FlagsSzv (f g : Byte) (s z lv : Bool) : Prop := FlagsAre f g s z lv (flagC f)

/-- `g` is `f` with exactly this C. -/
def FlagsC (f g : Byte) (c : Bool) : Prop := FlagsAre f g (flagS f) (flagZ f) (flagLv f) c

/-- `g` is `f` with exactly this Z. -/
def FlagsZ (f g : Byte) (z : Bool) : Prop := FlagsAre f g (flagS f) z (flagLv f) (flagC f)

/-- The privileged instructions (`48_misc_privileged.md` R541). -/
def privileged : Instr → Bool
  | .ldSpHl => true | .ldSpIx => true | .ldSpIy => true
  | .ipset0 => true | .ipset1 => true | .ipset2 => true | .ipset3 => true | .ipres => true
  | .popIp => true | .reti => true | .ldAXpc => true | .ldXpcA => true | .bitBAtHl _ => true
  | .setusr => true | .pushSu => true | .popSu => true | .sures => true | .rdmode => true
  | _ => false

/-- The three prefixes. -/
def isPrefix : Instr → Bool
  | .altd => true | .ioi => true | .ioe => true
  | _ => false

/-- Whether one device answers a data access at a logical address and a write there changes its cell (`20_memory.md` R64,
R76; `21_memory_interface.md` R110). -/
def State.memWritable (s : State) (a : Word) : Bool :=
  s.physDriven (inXpcWindow s.dev.mmu a) (s.dataPhys a) && (s.dataTargets a).all Prod.snd

/-- The cells a data write at a logical address reaches. -/
def State.dataCells (s : State) (a : Word) : List Nat := (s.dataTargets a).map Prod.fst

/-- The byte a data read at `a` gives after the data reads at `before` (they matter only where nothing drives the bus). -/
def State.peekAfter (s : State) (before : List Word) (a : Word) : Byte :=
  (before.foldl (fun t b => (t.memRead b).2) s).peek a

/-- `i` completes with the CPU as `c` and its latches consumed; nothing else changes. -/
def CompletesCpu (i : Instr) (s : State) (c : Cpu) : Prop :=
  exec i s = .next { s with cpu := c.retire (privileged i) }

/-- `i` completes with the CPU as `c` and its latches consumed, the devices as its reads leave them; nothing else changes. -/
def CompletesRead (i : Instr) (s : State) (d : Dev) (c : Cpu) : Prop :=
  exec i s = .next { s with cpu := c.retire (privileged i), dev := d }

/-- `i` completes with the CPU as `c` and its latches consumed, having read the stack at `as`: of everything else only the
stack-limit request (and the count of free values) can change. -/
def CompletesPop (i : Instr) (s : State) (as : List Word) (c : Cpu) : Prop :=
  ∃ n, exec i s = .next { s with
    cpu := c.retire (privileged i)
    dev := { s.dev with
      free := n
      viol := { s.dev.viol with
        stackLimit := s.dev.viol.stackLimit || (s.stackChecked && as.any (stackOutside s.dev.mmu)) } } }

/-- What memory writes of the bytes `ws` leave: the devices but for the two violation requests, every byte of memory but
those at the addresses written, and there (in every device the address selects) the byte written, or the old one where the
write is lost. -/
def MemoryAfter (s t : State) (stack : Bool) (ws : List (Word × Byte)) : Prop :=
  t.cfg = s.cfg ∧ t.inbox = s.inbox ∧ t.writesLeft = s.writesLeft ∧
  t.dev = { s.dev with
    free := t.dev.free
    viol := { s.dev.viol with
      writeProtect := s.dev.viol.writeProtect || ws.any fun w => s.physProtected (s.dataPhys w.1)
      stackLimit := s.dev.viol.stackLimit || (stack && s.stackChecked && ws.any fun w => stackOutside s.dev.mmu w.1) } } ∧
  SameBytesBut (ws.flatMap fun w => s.dataCells w.1) s t ∧
  (Memory.wf s.mem = true → (ws.flatMap fun w => s.dataCells w.1).Nodup → ∀ w ∈ ws, ∀ c ∈ s.dataTargets w.1,
    cellRead t.mem c.1 = if c.2 then w.2 else cellRead s.mem c.1)

/-- Where no reset falls inside it (`70_reset_and_hazards.md` R900), `i` completes with the CPU as `c` and its latches
consumed, having written the bytes `ws` to memory. -/
def CompletesStore (i : Instr) (s : State) (stack : Bool) (ws : List (Word × Byte)) (c : Cpu) : Prop :=
  s.writesLeft = none → ∃ t, exec i s = .next t ∧ t.cpu = c.retire (privileged i) ∧ MemoryAfter s t stack ws

/-- The two bytes a word store writes, low byte at the lower address (`20_memory.md` R65). -/
def wordBytes (a w : Word) : List (Word × Byte) := [(a, w.extractLsb' 0 8), (a + 1, w.extractLsb' 8 8)]

/-- The two bytes a word push writes, high byte first (`20_memory.md` R65, R68). -/
def pushBytes (sp w : Word) : List (Word × Byte) := [(sp - 1, w.extractLsb' 8 8), (sp - 2, w.extractLsb' 0 8)]

/-- `UserMode` as the devices stand (`60_exceptions.md` R652). -/
def userModeAt (cfg : Params) (su : Byte) (d : Dev) : Bool := decide (cfg.rev = .r3000A) && d.edmf && bit su 0

/-- The devices after byte writes in internal I/O space, in order, or the refusal of a reserved value. -/
def ioWrites (cfg : Params) (su : Byte) : List (Word × Byte) → Dev → Except Refusal Dev
  | [], d => .ok d
  | w :: ws, d =>
    match ioWriteInternal cfg (userModeAt cfg su d) d w.1 w.2 with
    | .ok e => ioWrites cfg su ws e
    | .error r => .error r

/-- The devices after byte writes in external I/O space, in order. -/
def extWrites (cfg : Params) (user : Bool) (ws : List (Word × Byte)) (d : Dev) : Dev :=
  ws.foldl (fun e w => ioWriteExternal cfg user e w.1 w.2) d

/-- Where no reset falls inside it (`70_reset_and_hazards.md` R900), `i` completes with the CPU as `c`, having written the
bytes `ws` in the space the prefix names, from the devices `d` on; in internal I/O space it is refused exactly where a write
is. -/
def CompletesPrefixed (i : Instr) (s : State) (d : Dev) (ws : List (Word × Byte)) (c : Cpu) : Prop :=
  s.writesLeft = none →
  (s.cpu.iospace = .internal → exec i s =
    match ioWrites s.cfg s.cpu.su ws d with
    | .ok e => .next { s with cpu := c.retire (privileged i), dev := e }
    | .error r => .refused r) ∧
  (s.cpu.iospace = .external → CompletesRead i s (extWrites s.cfg s.userMode ws d) c)

/-! Shapes of instructions -/

/-- The byte loads: the register they fill and the address they read (`40_load_immediate_direct.md`, `41_load_indexed.md`,
I column s). -/
def byteLoad (s : State) : Instr → Option (R8 × Word)
  | .ldAAtMn mn => some (.a, mn)
  | .ldAAtBc => some (.a, s.cpu.main.bc)
  | .ldAAtDe => some (.a, s.cpu.main.de)
  | .ldRAtHl r => some (r, s.cpu.main.hl)
  | .ldRAtIxD r d => some (r, s.cpu.ix + d.signExtend 16)
  | .ldRAtIyD r d => some (r, s.cpu.iy + d.signExtend 16)
  | _ => none

/-- The byte stores: the address and the byte (I column d). -/
def byteStore (s : State) : Instr → Option (Word × Byte)
  | .ldAtMnA mn => some (mn, s.cpu.main.a)
  | .ldAtBcA => some (s.cpu.main.bc, s.cpu.main.a)
  | .ldAtDeA => some (s.cpu.main.de, s.cpu.main.a)
  | .ldAtHlN n => some (s.cpu.main.hl, n)
  | .ldAtHlR r => some (s.cpu.main.hl, s.cpu.main.r8 r)
  | .ldAtIxDN d n => some (s.cpu.ix + d.signExtend 16, n)
  | .ldAtIxDR d r => some (s.cpu.ix + d.signExtend 16, s.cpu.main.r8 r)
  | .ldAtIyDN d n => some (s.cpu.iy + d.signExtend 16, n)
  | .ldAtIyDR d r => some (s.cpu.iy + d.signExtend 16, s.cpu.main.r8 r)
  | _ => none

/-- Where a word that is loaded goes: `dd`, IX or IY. -/
inductive WordDst where
  | ss (x : SS) | ix | iy
deriving DecidableEq, Repr

/-- The CPU after a word is written to its destination; SP, IX and IY have no alternate (`46_prefix_block.md` R471). -/
def WordDst.write (c : Cpu) (w : Word) : WordDst → Cpu
  | .ss .bc => dstCpu c fun x => { x with b := w.extractLsb' 8 8, c := w.extractLsb' 0 8 }
  | .ss .de => dstCpu c fun x => { x with d := w.extractLsb' 8 8, e := w.extractLsb' 0 8 }
  | .ss .hl => dstCpu c fun x => { x with h := w.extractLsb' 8 8, l := w.extractLsb' 0 8 }
  | .ss .sp => { c with sp := w }
  | .ix => { c with ix := w }
  | .iy => { c with iy := w }

/-- The word loads: the destination and the address of the low byte (I column s). -/
def wordLoad (s : State) : Instr → Option (WordDst × Word)
  | .ldHlAtMn mn => some (.ss .hl, mn)
  | .ldDdAtMn dd mn => some (.ss dd, mn)
  | .ldIxAtMn mn => some (.ix, mn)
  | .ldIyAtMn mn => some (.iy, mn)
  | .ldHlAtHlD d => some (.ss .hl, s.cpu.main.hl + d.signExtend 16)
  | .ldHlAtIxD d => some (.ss .hl, s.cpu.ix + d.signExtend 16)
  | .ldHlAtIyD d => some (.ss .hl, s.cpu.iy + d.signExtend 16)
  | _ => none

/-- The word stores: the address of the low byte and the word (I column d). -/
def wordStore (s : State) : Instr → Option (Word × Word)
  | .ldAtMnHl mn => some (mn, s.cpu.main.hl)
  | .ldAtMnIx mn => some (mn, s.cpu.ix)
  | .ldAtMnIy mn => some (mn, s.cpu.iy)
  | .ldAtMnSs mn ss => some (mn, s.ss ss)
  | .ldAtHlDHl d => some (s.cpu.main.hl + d.signExtend 16, s.cpu.main.hl)
  | .ldAtIxDHl d => some (s.cpu.ix + d.signExtend 16, s.cpu.main.hl)
  | .ldAtIyDHl d => some (s.cpu.iy + d.signExtend 16, s.cpu.main.hl)
  | _ => none

/-- The stack-relative word loads: destination and offset (`41_load_indexed.md` R209 to R211). -/
def stackLoad : Instr → Option (WordDst × Byte)
  | .ldHlAtSpN n => some (.ss .hl, n)
  | .ldIxAtSpN n => some (.ix, n)
  | .ldIyAtSpN n => some (.iy, n)
  | _ => none

/-- The stack-relative word stores: offset and word (`41_load_indexed.md` R206 to R208). -/
def stackStore (s : State) : Instr → Option (Byte × Word)
  | .ldAtSpNHl n => some (n, s.cpu.main.hl)
  | .ldAtSpNIx n => some (n, s.cpu.ix)
  | .ldAtSpNIy n => some (n, s.cpu.iy)
  | _ => none

/-- Where an LDP load puts its word: the main HL, IX or IY, whatever ALTD says (`41_load_indexed.md` R216). -/
inductive LdpDst where
  | hl | ix | iy
deriving DecidableEq, Repr

/-- The CPU after an LDP load. -/
def LdpDst.write (c : Cpu) (w : Word) : LdpDst → Cpu
  | .hl => { c with main := { c.main with h := w.extractLsb' 8 8, l := w.extractLsb' 0 8 } }
  | .ix => { c with ix := w }
  | .iy => { c with iy := w }

/-- The LDP loads: destination and the low sixteen address bits (`41_load_indexed.md` R220 to R228). -/
def ldpLoad (s : State) : Instr → Option (LdpDst × Word)
  | .ldpHlAtHl => some (.hl, s.cpu.main.hl)
  | .ldpHlAtIx => some (.hl, s.cpu.ix)
  | .ldpHlAtIy => some (.hl, s.cpu.iy)
  | .ldpHlAtMn mn => some (.hl, mn)
  | .ldpIxAtMn mn => some (.ix, mn)
  | .ldpIyAtMn mn => some (.iy, mn)
  | _ => none

/-- The LDP stores: the low sixteen address bits and the word (`41_load_indexed.md` R217 to R225). -/
def ldpStore (s : State) : Instr → Option (Word × Word)
  | .ldpAtHlHl => some (s.cpu.main.hl, s.cpu.main.hl)
  | .ldpAtIxHl => some (s.cpu.ix, s.cpu.main.hl)
  | .ldpAtIyHl => some (s.cpu.iy, s.cpu.main.hl)
  | .ldpAtMnHl mn => some (mn, s.cpu.main.hl)
  | .ldpAtMnIx mn => some (mn, s.cpu.ix)
  | .ldpAtMnIy mn => some (mn, s.cpu.iy)
  | _ => none

/-- The byte operand of an instruction: a register's or constant's value with the state as it is, or what a load at an
address gives (`44_arith8.md` R351, `45_bit_shift.md` R420). -/
inductive Operand where
  | value (b : Byte) | at (a : Word)
deriving DecidableEq, Repr

/-- The operand's value and the state after it is read. -/
def Operand.read (s : State) : Operand → Byte × State
  | .value b => (b, s)
  | .at a => s.load8 a

/-- The two-operand ALU instructions: operation and second operand (`44_arith8.md` R351 to R391). -/
def aluForm (s : State) : Instr → Option (AluOp × Operand)
  | .addAAtHl => some (.add, .at s.cpu.main.hl)
  | .addAAtIxD d => some (.add, .at (s.cpu.ix + d.signExtend 16))
  | .addAAtIyD d => some (.add, .at (s.cpu.iy + d.signExtend 16))
  | .addAN n => some (.add, .value n)
  | .addAR r => some (.add, .value (s.cpu.main.r8 r))
  | .adcAAtHl => some (.adc, .at s.cpu.main.hl)
  | .adcAAtIxD d => some (.adc, .at (s.cpu.ix + d.signExtend 16))
  | .adcAAtIyD d => some (.adc, .at (s.cpu.iy + d.signExtend 16))
  | .adcAN n => some (.adc, .value n)
  | .adcAR r => some (.adc, .value (s.cpu.main.r8 r))
  | .subAtHl => some (.sub, .at s.cpu.main.hl)
  | .subAtIxD d => some (.sub, .at (s.cpu.ix + d.signExtend 16))
  | .subAtIyD d => some (.sub, .at (s.cpu.iy + d.signExtend 16))
  | .subN n => some (.sub, .value n)
  | .subR r => some (.sub, .value (s.cpu.main.r8 r))
  | .sbcAAtHl => some (.sbc, .at s.cpu.main.hl)
  | .sbcAAtIxD d => some (.sbc, .at (s.cpu.ix + d.signExtend 16))
  | .sbcAAtIyD d => some (.sbc, .at (s.cpu.iy + d.signExtend 16))
  | .sbcAN n => some (.sbc, .value n)
  | .sbcAR r => some (.sbc, .value (s.cpu.main.r8 r))
  | .andAtHl => some (.and, .at s.cpu.main.hl)
  | .andAtIxD d => some (.and, .at (s.cpu.ix + d.signExtend 16))
  | .andAtIyD d => some (.and, .at (s.cpu.iy + d.signExtend 16))
  | .andN n => some (.and, .value n)
  | .andR r => some (.and, .value (s.cpu.main.r8 r))
  | .xorAtHl => some (.xor, .at s.cpu.main.hl)
  | .xorAtIxD d => some (.xor, .at (s.cpu.ix + d.signExtend 16))
  | .xorAtIyD d => some (.xor, .at (s.cpu.iy + d.signExtend 16))
  | .xorN n => some (.xor, .value n)
  | .xorR r => some (.xor, .value (s.cpu.main.r8 r))
  | .orAtHl => some (.or, .at s.cpu.main.hl)
  | .orAtIxD d => some (.or, .at (s.cpu.ix + d.signExtend 16))
  | .orAtIyD d => some (.or, .at (s.cpu.iy + d.signExtend 16))
  | .orN n => some (.or, .value n)
  | .orR r => some (.or, .value (s.cpu.main.r8 r))
  | .cpAtHl => some (.cp, .at s.cpu.main.hl)
  | .cpAtIxD d => some (.cp, .at (s.cpu.ix + d.signExtend 16))
  | .cpAtIyD d => some (.cp, .at (s.cpu.iy + d.signExtend 16))
  | .cpN n => some (.cp, .value n)
  | .cpR r => some (.cp, .value (s.cpu.main.r8 r))
  | _ => none

/-- The result of an ALU operation, as the spec's arithmetic over the integers gives it (`44_arith8.md` R350). -/
def aluResult (op : AluOp) (a b : Byte) (c : Bool) : Byte :=
  match op with
  | .add => BitVec.ofNat 8 (a.toNat + b.toNat)
  | .adc => BitVec.ofNat 8 (a.toNat + b.toNat + c.toNat)
  | .sub => BitVec.ofInt 8 ((a.toNat : Int) - b.toNat)
  | .sbc => BitVec.ofInt 8 ((a.toNat : Int) - b.toNat - c.toNat)
  | .and => a &&& b
  | .xor => (a &&& ~~~b) ||| (~~~a &&& b)
  | .or => a ||| b
  | .cp => BitVec.ofInt 8 ((a.toNat : Int) - b.toNat)

/-- The L/V flag of an ALU operation: overflow by the signs, or the logical check (`44_arith8.md` R350). -/
def aluLv (op : AluOp) (a b res : Byte) : Bool :=
  match op with
  | .add => a.msb == b.msb && res.msb != a.msb
  | .adc => a.msb == b.msb && res.msb != a.msb
  | .sub => a.msb != b.msb && res.msb != a.msb
  | .sbc => a.msb != b.msb && res.msb != a.msb
  | .and => decide (16 ≤ res.toNat)
  | .xor => decide (16 ≤ res.toNat)
  | .or => decide (16 ≤ res.toNat)
  | .cp => a.msb != b.msb && res.msb != a.msb

/-- The C flag of an ALU operation (`44_arith8.md` R350). -/
def aluC (sense : SubCarry) (op : AluOp) (a b : Byte) (c : Bool) : Bool :=
  match op with
  | .add => decide (255 < a.toNat + b.toNat)
  | .adc => decide (255 < a.toNat + b.toNat + c.toNat)
  | .sub =>
    match sense with
    | .asDocumented => decide (b.toNat ≤ a.toNat)
    | .borrow => decide (a.toNat < b.toNat)
  | .sbc => decide (a.toNat < b.toNat + c.toNat)
  | .and => false
  | .xor => false
  | .or => false
  | .cp => decide (a.toNat < b.toNat)

/-- The memory forms of the read-modify-write instructions: the address, and what becomes of the byte and of F as functions
of the byte read (`44_arith8.md` R392 to R398, `45_bit_shift.md` R425 to R458). -/
def modifyAddr (s : State) : Instr → Option Word
  | .incAtHl => some s.cpu.main.hl
  | .incAtIxD d => some (s.cpu.ix + d.signExtend 16)
  | .incAtIyD d => some (s.cpu.iy + d.signExtend 16)
  | .decAtHl => some s.cpu.main.hl
  | .decAtIxD d => some (s.cpu.ix + d.signExtend 16)
  | .decAtIyD d => some (s.cpu.iy + d.signExtend 16)
  | .resBAtHl _ => some s.cpu.main.hl
  | .resBAtIxD _ d => some (s.cpu.ix + d.signExtend 16)
  | .resBAtIyD _ d => some (s.cpu.iy + d.signExtend 16)
  | .setBAtHl _ => some s.cpu.main.hl
  | .setBAtIxD _ d => some (s.cpu.ix + d.signExtend 16)
  | .setBAtIyD _ d => some (s.cpu.iy + d.signExtend 16)
  | .rlAtHl => some s.cpu.main.hl
  | .rlAtIxD d => some (s.cpu.ix + d.signExtend 16)
  | .rlAtIyD d => some (s.cpu.iy + d.signExtend 16)
  | .rlcAtHl => some s.cpu.main.hl
  | .rlcAtIxD d => some (s.cpu.ix + d.signExtend 16)
  | .rlcAtIyD d => some (s.cpu.iy + d.signExtend 16)
  | .rrAtHl => some s.cpu.main.hl
  | .rrAtIxD d => some (s.cpu.ix + d.signExtend 16)
  | .rrAtIyD d => some (s.cpu.iy + d.signExtend 16)
  | .rrcAtHl => some s.cpu.main.hl
  | .rrcAtIxD d => some (s.cpu.ix + d.signExtend 16)
  | .rrcAtIyD d => some (s.cpu.iy + d.signExtend 16)
  | .slaAtHl => some s.cpu.main.hl
  | .slaAtIxD d => some (s.cpu.ix + d.signExtend 16)
  | .slaAtIyD d => some (s.cpu.iy + d.signExtend 16)
  | .sraAtHl => some s.cpu.main.hl
  | .sraAtIxD d => some (s.cpu.ix + d.signExtend 16)
  | .sraAtIyD d => some (s.cpu.iy + d.signExtend 16)
  | .srlAtHl => some s.cpu.main.hl
  | .srlAtIxD d => some (s.cpu.ix + d.signExtend 16)
  | .srlAtIyD d => some (s.cpu.iy + d.signExtend 16)
  | _ => none

/-- A one-operand byte operation: what it makes of a byte, and how it writes F. -/
inductive ByteOp where
  | inc | dec | res (b : BitVec 3) | set (b : BitVec 3) | rlc | rrc | rl | rr | sla | sra | srl
deriving DecidableEq, Repr

/-- The operation of a read-modify-write or register form. -/
def byteOp : Instr → Option ByteOp
  | .incAtHl => some .inc | .incAtIxD _ => some .inc | .incAtIyD _ => some .inc | .incR _ => some .inc
  | .decAtHl => some .dec | .decAtIxD _ => some .dec | .decAtIyD _ => some .dec | .decR _ => some .dec
  | .resBAtHl b => some (.res b) | .resBAtIxD b _ => some (.res b) | .resBAtIyD b _ => some (.res b) | .resBR b _ => some (.res b)
  | .setBAtHl b => some (.set b) | .setBAtIxD b _ => some (.set b) | .setBAtIyD b _ => some (.set b) | .setBR b _ => some (.set b)
  | .rlcAtHl => some .rlc | .rlcAtIxD _ => some .rlc | .rlcAtIyD _ => some .rlc | .rlcR _ => some .rlc
  | .rrcAtHl => some .rrc | .rrcAtIxD _ => some .rrc | .rrcAtIyD _ => some .rrc | .rrcR _ => some .rrc
  | .rlAtHl => some .rl | .rlAtIxD _ => some .rl | .rlAtIyD _ => some .rl | .rlR _ => some .rl
  | .rrAtHl => some .rr | .rrAtIxD _ => some .rr | .rrAtIyD _ => some .rr | .rrR _ => some .rr
  | .slaAtHl => some .sla | .slaAtIxD _ => some .sla | .slaAtIyD _ => some .sla | .slaR _ => some .sla
  | .sraAtHl => some .sra | .sraAtIxD _ => some .sra | .sraAtIyD _ => some .sra | .sraR _ => some .sra
  | .srlAtHl => some .srl | .srlAtIxD _ => some .srl | .srlAtIyD _ => some .srl | .srlR _ => some .srl
  | _ => none

/-- The register of a register form. -/
def byteOpReg : Instr → Option R8
  | .incR r => some r | .decR r => some r | .resBR _ r => some r | .setBR _ r => some r
  | .rlcR r => some r | .rrcR r => some r | .rlR r => some r | .rrR r => some r
  | .slaR r => some r | .sraR r => some r | .srlR r => some r
  | _ => none

/-- What an operation makes of a byte, by arithmetic (`44_arith8.md` R392, R396; `45_bit_shift.md` R420, R433). -/
def ByteOp.result (v : Byte) (c : Bool) : ByteOp → Byte
  | .inc => BitVec.ofNat 8 (v.toNat + 1)
  | .dec => BitVec.ofNat 8 (v.toNat + 255)
  | .res b => v &&& ~~~(1#8 <<< b.toNat)
  | .set b => v ||| (1#8 <<< b.toNat)
  | .rlc => BitVec.ofNat 8 (2 * v.toNat + v.toNat / 128)
  | .rrc => BitVec.ofNat 8 (v.toNat / 2 + 128 * (v.toNat % 2))
  | .rl => BitVec.ofNat 8 (2 * v.toNat + c.toNat)
  | .rr => BitVec.ofNat 8 (v.toNat / 2 + 128 * c.toNat)
  | .sla => BitVec.ofNat 8 (2 * v.toNat)
  | .sra => BitVec.ofNat 8 (v.toNat / 2 + 128 * (v.toNat / 128))
  | .srl => BitVec.ofNat 8 (v.toNat / 2)

/-- How an operation writes F: RES and SET nothing; INC and DEC S, Z, V; the shifts S, Z, L and the bit shifted out. -/
def ByteOp.FlagsOk (v res f g : Byte) : ByteOp → Prop
  | .inc => FlagsSzv f g res.msb (decide (res = 0)) (decide (v = 0x7F))
  | .dec => FlagsSzv f g res.msb (decide (res = 0)) (decide (v = 0x80))
  | .res _ => g = f
  | .set _ => g = f
  | .rlc => FlagsAre f g res.msb (decide (res = 0)) (decide (16 ≤ res.toNat)) (decide (128 ≤ v.toNat))
  | .rl => FlagsAre f g res.msb (decide (res = 0)) (decide (16 ≤ res.toNat)) (decide (128 ≤ v.toNat))
  | .sla => FlagsAre f g res.msb (decide (res = 0)) (decide (16 ≤ res.toNat)) (decide (128 ≤ v.toNat))
  | .rrc => FlagsAre f g res.msb (decide (res = 0)) (decide (16 ≤ res.toNat)) (decide (v.toNat % 2 = 1))
  | .rr => FlagsAre f g res.msb (decide (res = 0)) (decide (16 ≤ res.toNat)) (decide (v.toNat % 2 = 1))
  | .sra => FlagsAre f g res.msb (decide (res = 0)) (decide (16 ≤ res.toNat)) (decide (v.toNat % 2 = 1))
  | .srl => FlagsAre f g res.msb (decide (res = 0)) (decide (16 ≤ res.toNat)) (decide (v.toNat % 2 = 1))

/-- The block moves: which access the prefix moves (true: the write), the strides of HL and DE, and whether the instruction
repeats (`46_prefix_block.md` R480 to R483, `49_r3000a_opcodes.md` R553). -/
def blockForm : Instr → Option (Bool × Int × Int × Bool)
  | .ldd => some (true, -1, -1, false)
  | .lddr => some (true, -1, -1, true)
  | .ldi => some (true, 1, 1, false)
  | .ldir => some (true, 1, 1, true)
  | .lddsr => some (true, -1, 0, true)
  | .ldisr => some (true, 1, 0, true)
  | .lsdr => some (false, -1, -1, true)
  | .lsir => some (false, 1, 1, true)
  | .lsddr => some (false, 0, -1, true)
  | .lsidr => some (false, 0, 1, true)
  | _ => none

/-- The CPU after one iteration of a block move: BC counts down, DE and HL move, L/V says that BC reached 0, and a repeating
form with BC not 0 goes back to its first byte. -/
def blockCpu (s : State) (dh dd : Int) (rep : Bool) (g : Byte) : Cpu :=
  let n := s.cpu.main.bc - 1
  { s.cpu with
    main := { ((s.cpu.main.setBc n).setDe (s.cpu.main.de + BitVec.ofInt 16 dd)).setHl
      (s.cpu.main.hl + BitVec.ofInt 16 dh) with f := g }
    pc := if rep = true ∧ n ≠ 0 then s.cpu.start else s.cpu.pc }

/-- Timer A after `n` pulses of its main clock. -/
def timerTicks : Nat → TimerA → TimerA
  | 0, t => t
  | n + 1, t => timerTicks n (t.tick true)

end Sys2Proof.Machine
end

