-- ==== Sys2Proof/Certificates/Slice0/Obligations.lean ====
section
/-! DEFINITION. The statements for the provers: what each instruction leaves, and what holds of the whole machine. -/
open Sys2Proof Sys2Proof.Machine

/-! Results: what each instruction leaves -/

/-- Immediate loads and register moves: the destination named gets the value, under ALTD its alternate where there is one,
and nothing else changes (`40_load_immediate_direct.md` R161 to R164, `42_move_exchange_stack.md` R240, R247 to R263).  That
ALTD has no effect on a load of SP, which has no alternate, is the spec's own decision (R163, D16). -/
def Obligations.RegisterLoadsComplete : Prop := ∀ s : State,
  (∀ mn, CompletesCpu (.ldIxMn mn) s { s.cpu with ix := mn }) ∧
  (∀ mn, CompletesCpu (.ldIyMn mn) s { s.cpu with iy := mn }) ∧
  (∀ dd mn, CompletesCpu (.ldDdMn dd mn) s (WordDst.write s.cpu mn (.ss dd))) ∧
  (∀ r n, CompletesCpu (.ldRN r n) s (dstCpu s.cpu fun x => x.setR8 r n)) ∧
  (∀ r g, CompletesCpu (.ldRG r g) s (dstCpu s.cpu fun x => x.setR8 r (s.cpu.main.r8 g))) ∧
  CompletesCpu .ldHlIx s (WordDst.write s.cpu s.cpu.ix (.ss .hl)) ∧
  CompletesCpu .ldHlIy s (WordDst.write s.cpu s.cpu.iy (.ss .hl)) ∧
  CompletesCpu .ldIxHl s { s.cpu with ix := s.cpu.main.hl } ∧
  CompletesCpu .ldIyHl s { s.cpu with iy := s.cpu.main.hl } ∧
  CompletesCpu .ldSpHl s { s.cpu with sp := s.cpu.main.hl } ∧
  CompletesCpu .ldSpIx s { s.cpu with sp := s.cpu.ix } ∧
  CompletesCpu .ldSpIy s { s.cpu with sp := s.cpu.iy } ∧
  (∀ dd, CompletesCpu (.ldDdaBc dd) s { s.cpu with alt := s.cpu.alt.setDda dd s.cpu.main.bc }) ∧
  (∀ dd, CompletesCpu (.ldDdaDe dd) s { s.cpu with alt := s.cpu.alt.setDda dd s.cpu.main.de })

/-- The six byte loads: the register gets the byte the load at the form's address gives, in the space the prefix names; of
the rest only the devices can change, by the read (`40_load_immediate_direct.md` R166, `41_load_indexed.md` R191 to R203). -/
def Obligations.ByteLoadsComplete : Prop := ∀ (s : State) (i : Instr) (r : R8) (a : Word), byteLoad s i = some (r, a) →
  CompletesRead i s (s.load8 a).2.dev (dstCpu s.cpu fun x => x.setR8 r (s.load8 a).1)

/-- The seven word loads, low byte at the lower address (`40_load_immediate_direct.md` R171 to R174, `41_load_indexed.md`
R205, R213, R215).  That ALTD has no effect on a load of SP, which has no alternate, is the spec's own decision (D16). -/
def Obligations.WordLoadsComplete : Prop := ∀ (s : State) (i : Instr) (x : WordDst) (a : Word), wordLoad s i = some (x, a) →
  CompletesRead i s (s.load16 a).2.dev (x.write s.cpu (s.load16 a).1)

/-- The nine byte stores and the seven word stores: in memory they complete, only the bytes stored change, and a write that
is lost or inhibited changes nothing; under an I/O prefix the bytes go to that space, in order
(`40_load_immediate_direct.md` R165 to R170, `41_load_indexed.md` R193 to R214). -/
def Obligations.StoresComplete : Prop := ∀ (s : State) (i : Instr) (ws : List (Word × Byte)),
  ((∃ a v, byteStore s i = some (a, v) ∧ ws = [(a, v)]) ∨ (∃ a w, wordStore s i = some (a, w) ∧ ws = wordBytes a w)) →
  (s.cpu.iospace = .memory → CompletesStore i s false ws s.cpu) ∧ CompletesPrefixed i s s.dev ws s.cpu

/-- The six stack-relative loads and stores: always memory, whatever the prefix (`41_load_indexed.md` R206 to R211).  An
access outside the stack limits is performed and requests the interrupt (`21_memory_interface.md` R105, D14): the model's
choice, log 22. -/
def Obligations.StackRelativeComplete : Prop := ∀ (s : State) (i : Instr),
  (∀ x n, stackLoad i = some (x, n) → let a := s.cpu.sp + n.setWidth 16
    CompletesPop i s [a, a + 1] (x.write s.cpu (word (s.peekAfter [a] (a + 1)) (s.peek a)))) ∧
  (∀ n w, stackStore s i = some (n, w) → CompletesStore i s true (wordBytes (s.cpu.sp + n.setWidth 16) w) s.cpu)

/-- The twelve LDP instructions: two bytes at the physical addresses {A[3:0], p} and {A[3:0], p + 1}, p + 1 modulo 2^16;
neither prefix has an effect; a store reaches every device the address selects (`41_load_indexed.md` R216 to R228,
`20_memory.md` R63, R64; that no reset falls inside it is the premise `writesLeft = none`, log 42).  That no MECR override
and no MMIDR inversion applies to an LDP access, which belongs to no segment, is the spec's own decision (R63, D8). -/
def Obligations.LdpComplete : Prop := ∀ (s : State) (i : Instr),
  let addr := fun q : Word => s.cpu.main.a.extractLsb' 0 4 ++ q
  let cell := fun q : Word => physCell s.cfg s.dev.mmu false (addr q)
  let cells := fun q : Word => (s.physTargets false (addr q)).map Prod.fst
  (∀ x p, ldpLoad s i = some (x, p) → ∃ w n,
    exec i s = .next { s with cpu := (x.write s.cpu w).retire (privileged i), dev := { s.dev with free := n } } ∧
    ((∀ q ∈ [p, p + 1], s.physDriven false (addr q) = true) →
      w = word (cellRead s.mem (cell (p + 1))) (cellRead s.mem (cell p)))) ∧
  (∀ p w, ldpStore s i = some (p, w) → s.writesLeft = none → ∃ t, exec i s = .next t ∧
    t.cpu = s.cpu.retire (privileged i) ∧ t.cfg = s.cfg ∧ t.inbox = s.inbox ∧ t.writesLeft = none ∧
    SameDevicesButRequests s t ∧ SameBytesBut (cells p ++ cells (p + 1)) s t ∧
    (Memory.wf s.mem = true → (cells p ++ cells (p + 1)).Nodup → ∀ y ∈ wordBytes p w, ∀ c ∈ s.physTargets false (addr y.1),
      cellRead t.mem c.1 = if c.2 then y.2 else cellRead s.mem c.1))

/-- The moves of EIR, IIR and XPC: LD A,EIR and LD A,IIR also set S and Z from the value
(`42_move_exchange_stack.md` R241 to R246).  That what LD A,EIR and LD A,IIR do to S and Z is the sign and zero of the value
loaded is R241's own inference, marked [derived] (from R30), and R242's after it; the source only says that they are
affected.  That the four unused bits of F stay is the model's choice, log 8 (D2 in R32), and that flags not named stay is
D23. -/
def Obligations.SpecialMovesComplete : Prop := ∀ s : State,
  (∀ i v, (i = .ldAEir ∧ v = s.cpu.eir) ∨ (i = .ldAIir ∧ v = s.cpu.iir) →
    ∃ g, FlagsAre (dstF s.cpu) g v.msb (decide (v = 0)) (flagLv (dstF s.cpu)) (flagC (dstF s.cpu)) ∧
      CompletesCpu i s (dstCpuF s.cpu (fun x => { x with a := v }) g)) ∧
  CompletesCpu .ldAXpc s (dstCpu s.cpu fun x => { x with a := s.cpu.xpc }) ∧
  CompletesCpu .ldEirA s { s.cpu with eir := s.cpu.main.a } ∧
  CompletesCpu .ldIirA s { s.cpu with iir := s.cpu.main.a } ∧
  CompletesCpu .ldXpcA s { s.cpu with xpc := s.cpu.main.a }

/-- The register exchanges, with ALTD making HL the alternate one in EX DE,HL and EX DE',HL
(`42_move_exchange_stack.md` R270 to R275). -/
def Obligations.ExchangesComplete : Prop := ∀ s : State,
  let m := s.cpu.main
  let l := s.cpu.alt
  CompletesCpu .exAfAfa s { s.cpu with main := { m with a := l.a, f := l.f }, alt := { l with a := m.a, f := m.f } } ∧
  CompletesCpu .exx s { s.cpu with
    main := { m with b := l.b, c := l.c, d := l.d, e := l.e, h := l.h, l := l.l }
    alt := { l with b := m.b, c := m.c, d := m.d, e := m.e, h := m.h, l := m.l } } ∧
  (s.cpu.altd = false → CompletesCpu .exDeHl s { s.cpu with main := { m with d := m.h, e := m.l, h := m.d, l := m.e } }) ∧
  (s.cpu.altd = true → CompletesCpu .exDeHl s { s.cpu with
    main := { m with d := l.h, e := l.l }, alt := { l with h := m.d, l := m.e } }) ∧
  CompletesCpu .exDeHla s { s.cpu with main := { m with d := l.h, e := l.l }, alt := { l with h := m.d, l := m.e } } ∧
  (s.cpu.altd = false → CompletesCpu .exDeaHl s { s.cpu with
    main := { m with h := l.d, l := l.e }, alt := { l with d := m.h, e := m.l } }) ∧
  (s.cpu.altd = true → CompletesCpu .exDeaHl s { s.cpu with alt := { l with d := l.h, e := l.l, h := l.d, l := l.e } }) ∧
  CompletesCpu .exDeaHla s { s.cpu with alt := { l with d := l.h, e := l.l, h := l.d, l := l.e } }

/-- EX (SP),HL and its IX and IY forms: the word on the stack and the register change places
(`42_move_exchange_stack.md` R265 to R267).  Outside the stack limits the exchange is performed and requests the interrupt
(`21_memory_interface.md` R105, D14): the model's choice, log 22.  That under ALTD the word on the stack goes to HL' while
the main HL goes to the stack is R265's own inference, marked [derived]. -/
def Obligations.StackExchangesComplete : Prop := ∀ s : State,
  let sp := s.cpu.sp
  let w := word (s.peekAfter [sp] (sp + 1)) (s.peek sp)
  CompletesStore .exAtSpHl s true (wordBytes sp s.cpu.main.hl) (WordDst.write s.cpu w (.ss .hl)) ∧
  CompletesStore .exAtSpIx s true (wordBytes sp s.cpu.ix) { s.cpu with ix := w } ∧
  CompletesStore .exAtSpIy s true (wordBytes sp s.cpu.iy) { s.cpu with iy := w }

/-- The pushes: SP goes down by one or two and the bytes are written, high byte first
(`42_move_exchange_stack.md` R285 to R288, `49_r3000a_opcodes.md` R561).  Outside the stack limits the bytes are pushed all
the same and the interrupt is requested (`21_memory_interface.md` R105, D14): the model's choice, log 22. -/
def Obligations.PushesComplete : Prop := ∀ s : State,
  let sp := s.cpu.sp
  CompletesStore .pushIp s true [(sp - 1, s.cpu.ip)] { s.cpu with sp := sp - 1 } ∧
  CompletesStore .pushSu s true [(sp - 1, s.cpu.su)] { s.cpu with sp := sp - 1 } ∧
  CompletesStore .pushIx s true (pushBytes sp s.cpu.ix) { s.cpu with sp := sp - 2 } ∧
  CompletesStore .pushIy s true (pushBytes sp s.cpu.iy) { s.cpu with sp := sp - 2 } ∧
  CompletesStore (.pushZz .bc) s true (pushBytes sp (s.cpu.main.b ++ s.cpu.main.c)) { s.cpu with sp := sp - 2 } ∧
  CompletesStore (.pushZz .de) s true (pushBytes sp (s.cpu.main.d ++ s.cpu.main.e)) { s.cpu with sp := sp - 2 } ∧
  CompletesStore (.pushZz .hl) s true (pushBytes sp (s.cpu.main.h ++ s.cpu.main.l)) { s.cpu with sp := sp - 2 } ∧
  CompletesStore (.pushZz .af) s true (pushBytes sp (s.cpu.main.a ++ s.cpu.main.f)) { s.cpu with sp := sp - 2 }

/-- The pops: the register gets the bytes at SP, low byte first, and SP goes up by one or two; POP IP and POP SU where
USER_IPSET3, the model's parameter of log 14, does not refuse them (`42_move_exchange_stack.md` R281 to R284,
`49_r3000a_opcodes.md` R562).  A pop outside the stack limits is performed and requests the interrupt
(`21_memory_interface.md` R105, D14): the model's choice, log 22. -/
def Obligations.PopsComplete : Prop := ∀ s : State,
  let sp := s.cpu.sp
  let hi := s.peekAfter [sp] (sp + 1)
  let lo := s.peek sp
  (s.priorityRefused = false → CompletesPop .popIp s [sp] { s.cpu with ip := lo, sp := sp + 1 }) ∧
  (s.priorityRefused = false → CompletesPop .popSu s [sp] { s.cpu with su := lo, sp := sp + 1 }) ∧
  CompletesPop .popIx s [sp, sp + 1] { s.cpu with ix := word hi lo, sp := sp + 2 } ∧
  CompletesPop .popIy s [sp, sp + 1] { s.cpu with iy := word hi lo, sp := sp + 2 } ∧
  CompletesPop (.popZz .bc) s [sp, sp + 1] { dstCpu s.cpu (fun x => { x with b := hi, c := lo }) with sp := sp + 2 } ∧
  CompletesPop (.popZz .de) s [sp, sp + 1] { dstCpu s.cpu (fun x => { x with d := hi, e := lo }) with sp := sp + 2 } ∧
  CompletesPop (.popZz .hl) s [sp, sp + 1] { dstCpu s.cpu (fun x => { x with h := hi, l := lo }) with sp := sp + 2 } ∧
  CompletesPop (.popZz .af) s [sp, sp + 1] { dstCpu s.cpu (fun x => { x with a := hi, f := lo }) with sp := sp + 2 }

/-- The 16-bit additions that write C only: C is the carry out of bit 15 (`43_arith16.md` R302 to R304,
`42_move_exchange_stack.md` R290); the reading of ADD SP's byte is the parameter of log 10.  That the four unused bits of F
stay is the model's choice, log 8 (D2 in R32), and that flags not named stay is D23. -/
def Obligations.WordAdditionsComplete : Prop := ∀ s : State,
  let sum := fun x y : Word => BitVec.ofNat 16 (x.toNat + y.toNat)
  let carry := fun x y : Word => decide (65535 < x.toNat + y.toNat)
  (∀ ss, ∃ g, FlagsC (dstF s.cpu) g (carry s.cpu.main.hl (s.ss ss)) ∧
    CompletesCpu (.addHlSs ss) s (dstCpuF s.cpu (fun x => x.setHl (sum s.cpu.main.hl (s.ss ss))) g)) ∧
  (∀ xx, ∃ g, FlagsC (dstF s.cpu) g (carry s.cpu.ix (s.xx xx)) ∧
    CompletesCpu (.addIxXx xx) s { dstCpuF s.cpu id g with ix := sum s.cpu.ix (s.xx xx) }) ∧
  (∀ yy, ∃ g, FlagsC (dstF s.cpu) g (carry s.cpu.iy (s.yy yy)) ∧
    CompletesCpu (.addIyYy yy) s { dstCpuF s.cpu id g with iy := sum s.cpu.iy (s.yy yy) }) ∧
  (∀ d : Byte, let y : Word := if s.cfg.addSpSigned then d.signExtend 16 else d.setWidth 16
    ∃ g, FlagsC (dstF s.cpu) g (carry s.cpu.sp y) ∧
      CompletesCpu (.addSpD d) s { dstCpuF s.cpu id g with sp := sum s.cpu.sp y })

/-- ADC HL,ss and SBC HL,ss with all four flags, overflow by the signs, borrow as an unsigned comparison
(`43_arith16.md` R301, R326).  That the four unused bits of F stay is the model's choice, log 8 (D2 in R32), and that flags
not named stay is D23. -/
def Obligations.WordCarryArithmeticComplete : Prop := ∀ (s : State) (ss : SS),
  let x := s.cpu.main.hl
  let y := s.ss ss
  let c := (flagC s.cpu.main.f).toNat
  let p := BitVec.ofNat 16 (x.toNat + y.toNat + c)
  let q := BitVec.ofInt 16 ((x.toNat : Int) - y.toNat - c)
  (∃ g, FlagsAre (dstF s.cpu) g p.msb (decide (p = 0)) (x.msb == y.msb && p.msb != x.msb)
      (decide (65535 < x.toNat + y.toNat + c)) ∧
    CompletesCpu (.adcHlSs ss) s (dstCpuF s.cpu (fun r => r.setHl p) g)) ∧
  (∃ g, FlagsAre (dstF s.cpu) g q.msb (decide (q = 0)) (x.msb != y.msb && q.msb != x.msb)
      (decide (x.toNat < y.toNat + c)) ∧
    CompletesCpu (.sbcHlSs ss) s (dstCpuF s.cpu (fun r => r.setHl q) g))

/-- The 16-bit logical operations and BOOL: their encodings, and what they leave: C is cleared; L is the logical check of the
top four bits, zero after BOOL (`43_arith16.md` R305 to R310, R318 to R320; their clock counts are timing, log 18).  That the
four unused bits of F stay is the model's choice, log 8 (D2 in R32), and that under ALTD nothing is copied to F' from F is
D23 (R300). -/
def Obligations.WordLogicComplete : Prop := ∀ s : State,
  let hl := s.cpu.main.hl
  let de := s.cpu.main.de
  let flags := fun (r : Word) (g : Byte) => FlagsAre (dstF s.cpu) g r.msb (decide (r = 0)) (decide (4096 ≤ r.toNat)) false
  let bool := fun x : Word => if x = 0 then (0 : Word) else 1
  let toHl := fun (i : Instr) (r : Word) => ∃ g, flags r g ∧ CompletesCpu i s (dstCpuF s.cpu (fun x => x.setHl r) g)
  let toIx := fun (i : Instr) (r : Word) => ∃ g, flags r g ∧ CompletesCpu i s { dstCpuF s.cpu id g with ix := r }
  let toIy := fun (i : Instr) (r : Word) => ∃ g, flags r g ∧ CompletesCpu i s { dstCpuF s.cpu id g with iy := r }
  toHl .andHlDe (hl &&& de) ∧ toIx .andIxDe (s.cpu.ix &&& de) ∧ toIy .andIyDe (s.cpu.iy &&& de) ∧
  toHl .orHlDe (hl ||| de) ∧ toIx .orIxDe (s.cpu.ix ||| de) ∧ toIy .orIyDe (s.cpu.iy ||| de) ∧
  toHl .boolHl (bool hl) ∧ toIx .boolIx (bool s.cpu.ix) ∧ toIy .boolIy (bool s.cpu.iy) ∧
  ∀ rev ops rest, ∀ w ∈ ([([0xDC], .andHlDe), ([0xDD, 0xDC], .andIxDe), ([0xFD, 0xDC], .andIyDe), ([0xEC], .orHlDe),
      ([0xDD, 0xEC], .orIxDe), ([0xFD, 0xEC], .orIyDe), ([0xCC], .boolHl), ([0xDD, 0xCC], .boolIx), ([0xFD, 0xCC], .boolIy)] :
      List (List Byte × Instr)), decode rev ops (w.1 ++ rest) = .ok (w.2, rest)

/-- The 16-bit increments and decrements, modulo 2^16; MUL: HL and BC together are the signed 32-bit product of BC and DE
whatever ALTD says; none writes a flag (`43_arith16.md` R311 to R317).  That ALTD has no effect on an increment or decrement
of SP, which has no alternate, is the spec's own decision (R313, D16). -/
def Obligations.WordCountersAndMultiplyComplete : Prop := ∀ s : State,
  let up := fun x : Word => BitVec.ofNat 16 (x.toNat + 1)
  let down := fun x : Word => BitVec.ofNat 16 (x.toNat + 65535)
  CompletesCpu .incIx s { s.cpu with ix := up s.cpu.ix } ∧ CompletesCpu .incIy s { s.cpu with iy := up s.cpu.iy } ∧
  CompletesCpu .decIx s { s.cpu with ix := down s.cpu.ix } ∧ CompletesCpu .decIy s { s.cpu with iy := down s.cpu.iy } ∧
  (∀ ss, CompletesCpu (.incSs ss) s (WordDst.write s.cpu (up (s.ss ss)) (.ss ss))) ∧
  (∀ ss, CompletesCpu (.decSs ss) s (WordDst.write s.cpu (down (s.ss ss)) (.ss ss))) ∧
  ∃ h l : Word, (h ++ l).toInt = s.cpu.main.bc.toInt * s.cpu.main.de.toInt ∧
    CompletesCpu .mul s { s.cpu with main := (s.cpu.main.setHl h).setBc l }

/-- The 16-bit rotates through carry: their encodings, results and flags (`43_arith16.md` R321 to R325; their clock counts
are timing, log 18).  That the four unused bits of F stay is the model's choice, log 8 (D2 in R32). -/
def Obligations.WordRotatesComplete : Prop := ∀ s : State,
  let c := (flagC s.cpu.main.f).toNat
  let left := fun x : Word => BitVec.ofNat 16 (2 * x.toNat + c)
  let right := fun x : Word => BitVec.ofNat 16 (x.toNat / 2 + 32768 * c)
  let flags := fun (r : Word) (cout : Bool) (g : Byte) =>
    FlagsAre (dstF s.cpu) g r.msb (decide (r = 0)) (decide (4096 ≤ r.toNat)) cout
  let odd := fun x : Word => decide (x.toNat % 2 = 1)
  let de := s.cpu.main.de
  let hl := s.cpu.main.hl
  (∃ g, flags (left de) (decide (32768 ≤ de.toNat)) g ∧
    CompletesCpu .rlDe s (dstCpuF s.cpu (fun x => x.setDe (left de)) g)) ∧
  (∃ g, flags (right de) (odd de) g ∧ CompletesCpu .rrDe s (dstCpuF s.cpu (fun x => x.setDe (right de)) g)) ∧
  (∃ g, flags (right hl) (odd hl) g ∧ CompletesCpu .rrHl s (dstCpuF s.cpu (fun x => x.setHl (right hl)) g)) ∧
  (∃ g, flags (right s.cpu.ix) (odd s.cpu.ix) g ∧
    CompletesCpu .rrIx s { dstCpuF s.cpu id g with ix := right s.cpu.ix }) ∧
  (∃ g, flags (right s.cpu.iy) (odd s.cpu.iy) g ∧
    CompletesCpu .rrIy s { dstCpuF s.cpu id g with iy := right s.cpu.iy }) ∧
  ∀ rev ops rest, ∀ w ∈ ([([0xF3], .rlDe), ([0xFB], .rrDe), ([0xFC], .rrHl), ([0xDD, 0xFC], .rrIx), ([0xFD, 0xFC], .rrIy)] :
      List (List Byte × Instr)), decode rev ops (w.1 ++ rest) = .ok (w.2, rest)

/-- The forty two-operand ALU instructions: result, overflow, logical check and carry as R350 defines them, from A, the
operand and the main carry; CP writes no register (`44_arith8.md` R350 to R391); SUB's carry is the parameter of log 9.  That
the four unused bits of F stay is the model's choice, log 8 (D2 in R32), and that flags not named stay is D23. -/
def Obligations.AluComplete : Prop := ∀ (s : State) (i : Instr) (op : AluOp) (o : Operand), aluForm s i = some (op, o) →
  let a := s.cpu.main.a
  let b := (o.read s).1
  let c := flagC s.cpu.main.f
  let r := aluResult op a b c
  ∃ g, FlagsAre (dstF s.cpu) g r.msb (decide (r = 0)) (aluLv op a b r) (aluC s.cfg.subCarry op a b c) ∧
    CompletesRead i s (o.read s).2.dev (dstCpuF s.cpu (fun x => if op = .cp then x else { x with a := r }) g)

/-- The thirty-three read-modify-write forms: one read, one write of the result at the same address, and the flags
(`44_arith8.md` R392 to R398, `45_bit_shift.md` R425 to R460, `20_memory.md` R68).  The order, first the read and then the
write, is R68's own inference, marked [derived].  That the four unused bits of F stay is the model's choice, log 8 (D2 in
R32), and that flags not named stay is D23. -/
def Obligations.ModifyMemoryComplete : Prop := ∀ (s : State) (i : Instr) (op : ByteOp) (a : Word),
  byteOp i = some op → modifyAddr s i = some a →
  let v := (s.load8 a).1
  let r := op.result v (flagC s.cpu.main.f)
  ∃ g, op.FlagsOk v r (dstF s.cpu) g ∧
    (s.cpu.iospace = .memory → CompletesStore i s false [(a, r)] (dstCpuF s.cpu id g)) ∧
    CompletesPrefixed i s (s.load8 a).2.dev [(a, r)] (dstCpuF s.cpu id g)

/-- Their eleven register forms: read from the main register, written to the destination register
(`44_arith8.md` R395, R399, `45_bit_shift.md` R428, R432, R437 to R461).  That the four unused bits of F stay is the model's
choice, log 8 (D2 in R32), and that flags not named stay is D23. -/
def Obligations.ModifyRegisterComplete : Prop := ∀ (s : State) (i : Instr) (op : ByteOp) (x : R8),
  byteOp i = some op → byteOpReg i = some x →
  let v := s.cpu.main.r8 x
  let r := op.result v (flagC s.cpu.main.f)
  ∃ g, op.FlagsOk v r (dstF s.cpu) g ∧ CompletesCpu i s (dstCpuF s.cpu (fun y => y.setR8 x r) g)

/-- The fast A register operations and NEG (`44_arith8.md` R400 to R405): the rotates write C only.  The source does not
state the carry of NEG: that C is the borrow of 0 - A, set where A is not 0, is the spec's own decision (R401, D19).  That
the four unused bits of F stay is the model's choice, log 8 (D2 in R32), and that flags not named stay is D23. -/
def Obligations.AccumulatorComplete : Prop := ∀ s : State,
  let a := s.cpu.main.a
  let c := (flagC s.cpu.main.f).toNat
  let rotate := fun (i : Instr) (r : Byte) (cout : Bool) => ∃ g, FlagsC (dstF s.cpu) g cout ∧
    CompletesCpu i s (dstCpuF s.cpu (fun x => { x with a := r }) g)
  CompletesCpu .cpl s (dstCpu s.cpu fun x => { x with a := BitVec.ofNat 8 (255 - a.toNat) }) ∧
  (∃ g, FlagsAre (dstF s.cpu) g (-a).msb (decide (a = 0)) (decide (a = 0x80)) (decide (a ≠ 0)) ∧
    CompletesCpu .neg s (dstCpuF s.cpu (fun x => { x with a := -a }) g)) ∧
  rotate .rla (BitVec.ofNat 8 (2 * a.toNat + c)) (decide (128 ≤ a.toNat)) ∧
  rotate .rlca (BitVec.ofNat 8 (2 * a.toNat + a.toNat / 128)) (decide (128 ≤ a.toNat)) ∧
  rotate .rra (BitVec.ofNat 8 (a.toNat / 2 + 128 * c)) (decide (a.toNat % 2 = 1)) ∧
  rotate .rrca (BitVec.ofNat 8 (a.toNat / 2 + 128 * (a.toNat % 2))) (decide (a.toNat % 2 = 1))

/-- BIT: Z says that the tested bit is 0, no other flag and no register changes (`45_bit_shift.md` R420 to R424).  That the
four unused bits of F stay is the model's choice, log 8 (D2 in R32), and that flags not named stay is D23. -/
def Obligations.BitTestsComplete : Prop := ∀ (s : State) (b : BitVec 3),
  let memory := fun (i : Instr) (a : Word) => ∃ g, FlagsZ (dstF s.cpu) g (!(s.load8 a).1.getLsbD b.toNat) ∧
    CompletesRead i s (s.load8 a).2.dev (dstCpuF s.cpu id g)
  memory (.bitBAtHl b) s.cpu.main.hl ∧
  (∀ d : Byte, memory (.bitBAtIxD b d) (s.cpu.ix + d.signExtend 16)) ∧
  (∀ d : Byte, memory (.bitBAtIyD b d) (s.cpu.iy + d.signExtend 16)) ∧
  (∀ r, ∃ g, FlagsZ (dstF s.cpu) g (!(s.cpu.main.r8 r).getLsbD b.toNat) ∧
    CompletesCpu (.bitBR b r) s (dstCpuF s.cpu id g))

/-- One iteration of the ten block moves: the byte at HL goes to DE, the prefix moving the write or the read as the form
says (`46_prefix_block.md` R480 to R486, `49_r3000a_opcodes.md` R553 to R559); where a repeating form goes back to is log 23.
That BC = 0 on entry counts as 65536 and that the added block copies repeat as LDIR does are the spec's own decisions (D25 in
R481, D28 in R553).  That the four unused bits of F stay is the model's choice, log 8 (D2 in R32), and that flags not named
stay is D23. -/
def Obligations.BlockMovesComplete : Prop := ∀ (s : State) (i : Instr) (w rep : Bool) (dh dd : Int),
  blockForm i = some (w, dh, dd, rep) →
  let f := s.cpu.main.f
  let hl := s.cpu.main.hl
  let de := s.cpu.main.de
  ∃ g, FlagsAre f g (flagS f) (flagZ f) (decide (s.cpu.main.bc = 1)) (flagC f) ∧
    (s.cpu.iospace = .memory → CompletesStore i s false [(de, s.peek hl)] (blockCpu s dh dd rep g)) ∧
    (w = true → CompletesPrefixed i s (s.memRead hl).2.dev [(de, s.peek hl)] (blockCpu s dh dd rep g)) ∧
    (w = false → s.cpu.iospace ≠ .memory → s.writesLeft = none → ∃ t, exec i s = .next t ∧
      t.cpu = (blockCpu s dh dd rep g).retire (privileged i) ∧
      MemoryAfter (s.load8 hl).2 t false [(de, (s.load8 hl).1)])

/-- One iteration of UMA and UMS, computed over the integers; a prefix has no effect (`49_r3000a_opcodes.md` R551, R552);
the form of UMS's borrow is the parameter of log 11.  That they go back to their first byte while BC is not 0, one iteration
a step, is the model's choice, log 23 (D28 in R551).  That the four unused bits of F stay is the model's choice, log 8 (D2 in
R32), and that flags not named stay is D23. -/
def Obligations.MultiplyAccumulateComplete : Prop := ∀ s : State,
  let x := (s.peek s.cpu.ix).toNat
  let y := (s.peekAfter [s.cpu.ix] s.cpu.iy).toNat
  let p := y * s.cpu.main.de.toNat + s.cpu.alt.de.toNat + (flagC s.cpu.main.f).toNat
  let q := ((x : Int) - p) / 256
  let n := s.cpu.main.bc - 1
  let after := fun (carryWord : Word) (g : Byte) => { s.cpu with
    main := { (s.cpu.main.setBc n).setHl (s.cpu.main.hl + 1) with f := g }
    alt := s.cpu.alt.setDe carryWord
    ix := s.cpu.ix + 1
    iy := s.cpu.iy + 1
    pc := if n = 0 then s.cpu.pc else s.cpu.start }
  (∃ g, FlagsC s.cpu.main.f g (decide (16777216 ≤ x + p)) ∧
    CompletesStore .uma s false [(s.cpu.main.hl, BitVec.ofNat 8 (x + p))] (after (BitVec.ofNat 16 ((x + p) / 256)) g)) ∧
  (s.cfg.umsForm = .literal → ∃ g, FlagsC s.cpu.main.f g (decide (x < p)) ∧
    CompletesStore .ums s false [(s.cpu.main.hl, BitVec.ofInt 8 ((x : Int) - p))] (after (BitVec.ofInt 16 q) g)) ∧
  (s.cfg.umsForm = .magnitude → ∃ g, FlagsC s.cpu.main.f g (decide (q = -65536)) ∧
    CompletesStore .ums s false [(s.cpu.main.hl, BitVec.ofInt 8 ((x : Int) - p))] (after (BitVec.ofInt 16 (-q)) g))

/-- The jumps: taken or not on the main F; DJNZ tests the decremented B, which goes to B or under ALTD to B'
(`47_control.md` R502 to R509, R511).  That under ALTD DJNZ writes B' and still branches on the decremented value is R502's
own inference, marked [derived] (ALTD redirects the destination only, R470). -/
def Obligations.JumpsComplete : Prop := ∀ s : State,
  let near := fun e : Byte => s.cpu.pc + e.signExtend 16
  let t := s.cpu.main.b - 1
  CompletesCpu .jpAtHl s { s.cpu with pc := s.cpu.main.hl } ∧
  CompletesCpu .jpAtIx s { s.cpu with pc := s.cpu.ix } ∧
  CompletesCpu .jpAtIy s { s.cpu with pc := s.cpu.iy } ∧
  (∀ mn, CompletesCpu (.jpMn mn) s { s.cpu with pc := mn }) ∧
  (∀ f mn, CompletesCpu (.jpFMn f mn) s { s.cpu with pc := if condHolds f s.cpu.main.f then mn else s.cpu.pc }) ∧
  (∀ e, CompletesCpu (.jrE e) s { s.cpu with pc := near e }) ∧
  (∀ cc e, CompletesCpu (.jrCcE cc e) s { s.cpu with pc := if ccHolds cc s.cpu.main.f then near e else s.cpu.pc }) ∧
  (∀ e, CompletesCpu (.djnzE e) s { dstCpu s.cpu (fun x => { x with b := t }) with
    pc := if t = 0 then s.cpu.pc else near e }) ∧
  (∀ x mn, CompletesCpu (.ljpXMn x mn) s { s.cpu with xpc := x, pc := mn })

/-- The calls: the address after the instruction is pushed, LCALL pushing XPC above it (`47_control.md` R501, R510).
Outside the stack limits the address is pushed all the same and the interrupt is requested (`21_memory_interface.md` R105,
D14): the model's choice, log 22. -/
def Obligations.CallsComplete : Prop := ∀ s : State,
  let sp := s.cpu.sp
  (∀ mn, CompletesStore (.callMn mn) s true (pushBytes sp s.cpu.pc) { s.cpu with sp := sp - 2, pc := mn }) ∧
  (∀ x mn, CompletesStore (.lcallXMn x mn) s true
    [(sp - 1, s.cpu.xpc), (sp - 2, s.cpu.pc.extractLsb' 8 8), (sp - 3, s.cpu.pc.extractLsb' 0 8)]
    { s.cpu with sp := sp - 3, xpc := x, pc := mn })

/-- The returns: what each pops, in order; RET f reads nothing when its condition fails; RETI where USER_IPSET3, the model's
parameter of log 14, does not refuse it (`47_control.md` R512 to R515).  Pops outside the stack limits are performed and
request the interrupt (`21_memory_interface.md` R105, D14): the model's choice, log 22. -/
def Obligations.ReturnsComplete : Prop := ∀ s : State,
  let sp := s.cpu.sp
  let b0 := s.peek sp
  let b1 := s.peekAfter [sp] (sp + 1)
  let b2 := s.peekAfter [sp, sp + 1] (sp + 2)
  CompletesPop .ret s [sp, sp + 1] { s.cpu with sp := sp + 2, pc := word b1 b0 } ∧
  (∀ f, if condHolds f s.cpu.main.f
    then CompletesPop (.retF f) s [sp, sp + 1] { s.cpu with sp := sp + 2, pc := word b1 b0 }
    else CompletesCpu (.retF f) s s.cpu) ∧
  CompletesPop .lret s [sp, sp + 1, sp + 2] { s.cpu with sp := sp + 3, pc := word b1 b0, xpc := b2 } ∧
  (s.priorityRefused = false →
    CompletesPop .reti s [sp, sp + 1, sp + 2] { s.cpu with sp := sp + 3, ip := b0, pc := word b2 b1 })

/-- The software traps: the address after the instruction is pushed, REV = R3000A enters System mode, the program counter
goes to the slot in the internal table, IP stays; RST 28 is a NOP while BDCR[7] = 1 (`47_control.md` R520,
`49_r3000a_opcodes.md` R566, `60_exceptions.md` R621).  Outside the stack limits the address is pushed all the same and the
interrupt is requested (`21_memory_interface.md` R105, D14): the model's choice, log 22.  That SYSCALL pushes the return
address as RST does is R566's own inference, marked [derived]; that IP stays and that REV = R3000A enters System mode is
R621, marked [derived] as a whole. -/
def Obligations.SoftwareTrapsComplete : Prop := ∀ s : State,
  let sp := s.cpu.sp
  let su := match s.cfg.rev with | .r3000 => s.cpu.su | .r3000A => s.cpu.su.extractLsb' 0 6 ++ 0#2
  let trap := fun (i : Instr) (off : Byte) => CompletesStore i s true (pushBytes sp s.cpu.pc)
    { s.cpu with sp := sp - 2, su := su, pc := (s.cpu.iir &&& 0xFE) ++ off }
  trap (.rstV .v10) 0x20 ∧ trap (.rstV .v18) 0x30 ∧ trap (.rstV .v20) 0x40 ∧ trap (.rstV .v38) 0x70 ∧
  (bit s.dev.mmu.bdcr 7 = false → trap (.rstV .v28) 0x50) ∧
  (bit s.dev.mmu.bdcr 7 = true → CompletesCpu (.rstV .v28) s s.cpu) ∧
  trap .syscall 0x60

/-- NOP, SCF, CCF and the three prefixes: the prefixes set their latch, which stays for the next instruction
(`48_misc_privileged.md` R530, R536, R537; `46_prefix_block.md` R473, R476, R478).  That the four unused bits of F stay is
the model's choice, log 8 (D2 in R32), and that flags not named stay is D23. -/
def Obligations.FlagsAndPrefixesComplete : Prop := ∀ s : State,
  CompletesCpu .nop s s.cpu ∧
  (∃ g, FlagsC (dstF s.cpu) g true ∧ CompletesCpu .scf s (dstCpuF s.cpu id g)) ∧
  (∃ g, FlagsC (dstF s.cpu) g (!flagC s.cpu.main.f) ∧ CompletesCpu .ccf s (dstCpuF s.cpu id g)) ∧
  exec .altd s = .next { s with cpu := { s.cpu with altd := true } } ∧
  exec .ioi s = .next { s with cpu := { s.cpu with iospace := .internal } } ∧
  exec .ioe s = .next { s with cpu := { s.cpu with iospace := .external } }

/-- The priority and mode instructions: IP and SU are stacks of 2-bit fields; RDMODE writes the main carry; IDET requests
the System Mode Violation in User mode, and under ALTD is LD E',E (`48_misc_privileged.md` R531 to R535,
`49_r3000a_opcodes.md` R560 to R565, `60_exceptions.md` R657).  IPSET 3 and SURES where USER_IPSET3 does not refuse them in
User mode: the model's parameter, log 14 (D31, `60_exceptions.md` R658).  That IDET under ALTD never sets the request is
R564's own inference, marked [derived].  That the four unused bits of F stay is the model's choice, log 8 (D2 in R32), and
that flags not named stay is D23. -/
def Obligations.PriorityAndModeComplete : Prop := ∀ s : State,
  let ipset := fun p : BitVec 2 => { s.cpu with ip := s.cpu.ip.extractLsb' 0 6 ++ p }
  let back := fun x : Byte => x.extractLsb' 0 2 ++ x.extractLsb' 2 6
  CompletesCpu .ipset0 s (ipset 0) ∧ CompletesCpu .ipset1 s (ipset 1) ∧ CompletesCpu .ipset2 s (ipset 2) ∧
  (s.priorityRefused = false → CompletesCpu .ipset3 s (ipset 3)) ∧
  CompletesCpu .ipres s { s.cpu with ip := back s.cpu.ip } ∧
  CompletesCpu .setusr s { s.cpu with su := s.cpu.su.extractLsb' 0 6 ++ 1#2 } ∧
  (s.priorityRefused = false → CompletesCpu .sures s { s.cpu with su := back s.cpu.su }) ∧
  (∃ g, FlagsC s.cpu.main.f g (bit s.cpu.su 0) ∧
    CompletesCpu .rdmode s { s.cpu with main := { s.cpu.main with f := g } }) ∧
  (s.cpu.altd = true → CompletesCpu .idet s { s.cpu with alt := { s.cpu.alt with e := s.cpu.main.e } }) ∧
  (s.cpu.altd = false → s.userMode = false → CompletesCpu .idet s s.cpu) ∧
  (s.cpu.altd = false → s.userMode = true →
    CompletesRead .idet s { s.dev with viol := { s.dev.viol with systemMode := true } } s.cpu)

/-- Where USER_IPSET3 = refuse (the model's parameter, log 14), User code that could raise its priority to 3 or leave User
mode by IPSET 3, POP IP, RETI, SURES or POP SU is refused; nothing else is (`60_exceptions.md` R658). -/
def Obligations.PriorityRefusals : Prop := ∀ s : State, s.cfg.userIpset3 = .refuse → s.userMode = true →
  exec .ipset3 s = .refused (.userPriority "IPSET 3") ∧ exec .popIp s = .refused (.userPriority "POP IP") ∧
  exec .reti s = .refused (.userPriority "RETI") ∧ exec .sures s = .refused (.userPriority "SURES") ∧
  exec .popSu s = .refused (.userPriority "POP SU") ∧
  ∀ i m, exec i s = .refused (.userPriority m) → i ∈ [.ipset3, .popIp, .reti, .sures, .popSu]

/-! Encoding -/

/-- Decode and encode agree: every well-formed instruction, with every operand, is read back from its own bytes, whatever
follows; but 76 E3 and 76 EB are one instruction each, EX DE',HL' and EX DE,HL' (`30_encoding.md` R120 to R133).  The added
instructions have the bytes that the model's parameter R3000A_OPCODES gives them, for any map that gives each name at most one
byte and each byte, unassigned otherwise, at most one name (log 12). -/
def Obligations.DecodeEncode : Prop := ∀ (rev : Rev) (ops : OpcodeMap) (i : Instr) (rest : List Byte), OpcodeMap.ok ops = true →
  WellFormed rev ops i = true → (i = .altd → rest.head? ≠ some 0xE3 ∧ rest.head? ≠ some 0xEB) →
  decode rev ops (encode ops i ++ rest) = .ok (i, rest)

/-- What decodes is well formed, and its encoding is the bytes it was read from (`30_encoding.md` R120 to R135; the map of the
added instructions is the model's parameter, log 12); and 0x5B is LD E,E on the original chip and IDET on the 3000A, the byte
R133's own inference, marked [derived] (R126).  That ED 75 is SYSCALL is the default of the model's parameter R3000A_OPCODES
(PRESUMED, log 12; G3 and R133 take it from general knowledge): with the map empty ED 75 is unassigned. -/
def Obligations.DecodeSound : Prop :=
  (∀ (rev : Rev) (ops : OpcodeMap) (bs rest : List Byte) (i : Instr), OpcodeMap.ok ops = true →
    decode rev ops bs = .ok (i, rest) → WellFormed rev ops i = true ∧ encode ops i ++ rest = bs) ∧
  (∀ ops, decode .r3000 ops [0x5B] = .ok (.ldRG .e .e, []) ∧ decode .r3000A ops [0x5B] = .ok (.idet, [])) ∧
  decode .r3000A OpcodeMap.default [0xED, 0x75] = .ok (.syscall, []) ∧
  decode .r3000A [] [0xED, 0x75] = .error (.unassigned "ED" 0x75)

/-- A few words written out from the encodings of the instruction files decode to the instructions they stand for, whatever
the map of the added instructions; and the whole of page CB and of the pages DD CB and FD CB: what each byte that is assigned
stands for, and that the others stand for no instruction (`30_encoding.md` R126 to R131).  The maps of these rules are the spec's
own inference from the rows of the manual's chapter 21, marked [derived] in the file's preamble. -/
def Obligations.DecodeWords : Prop :=
  (∀ rev ops, ∀ w ∈ ([([0x3E, 0x5A], .ldRN .a 0x5A), ([0x01, 0x34, 0x12], .ldDdMn .bc 0x1234),
      ([0xDD, 0x66, 0xFE], .ldRAtIxD .h 0xFE), ([0xFD, 0x36, 0x05, 0x77], .ldAtIyDN 0x05 0x77),
      ([0xED, 0x6C], .ldpHlAtHl), ([0xF5], .pushZz .af), ([0xED, 0x52], .sbcHlSs .de), ([0xA6], .andAtHl),
      ([0xDD, 0xCB, 0x03, 0x9E], .resBAtIxD 3 0x03), ([0xCB, 0x3F], .srlR .a), ([0xD3], .ioi), ([0xED, 0xB0], .ldir),
      ([0xC7, 0x00, 0xE0, 0x12], .ljpXMn 0x12 0xE000), ([0x20, 0xFE], .jrCcE .nz 0xFE), ([0xED, 0x5D], .ipres)] :
      List (List Byte × Instr)), decode rev ops w.1 = .ok (w.2, [])) ∧
  ∀ (rev : Rev) (ops : OpcodeMap) (rest : List Byte),
    let reads := fun (bs : List Byte) (i : Instr) => decode rev ops (bs ++ rest) = .ok (i, rest)
    let refuses := fun bs : List Byte => ∀ p, decode rev ops (bs ++ rest) ≠ .ok p
    (∀ x ∈ ([(0, .b), (1, .c), (2, .d), (3, .e), (4, .h), (5, .l), (7, .a)] : List (BitVec 3 × R8)),
      (∀ w ∈ ([(0, .rlcR), (1, .rrcR), (2, .rlR), (3, .rrR), (4, .slaR), (5, .sraR), (7, .srlR)] :
        List (BitVec 5 × (R8 → Instr))), reads [0xCB, w.1 ++ x.1] (w.2 x.2)) ∧
      ∀ b : BitVec 3, reads [0xCB, 1#2 ++ b ++ x.1] (.bitBR b x.2) ∧ reads [0xCB, 2#2 ++ b ++ x.1] (.resBR b x.2) ∧
        reads [0xCB, 3#2 ++ b ++ x.1] (.setBR b x.2)) ∧
    (∀ w ∈ ([(0x06, .rlcAtHl, .rlcAtIxD, .rlcAtIyD), (0x0E, .rrcAtHl, .rrcAtIxD, .rrcAtIyD), (0x16, .rlAtHl, .rlAtIxD, .rlAtIyD),
        (0x1E, .rrAtHl, .rrAtIxD, .rrAtIyD), (0x26, .slaAtHl, .slaAtIxD, .slaAtIyD), (0x2E, .sraAtHl, .sraAtIxD, .sraAtIyD),
        (0x3E, .srlAtHl, .srlAtIxD, .srlAtIyD)] : List (Byte × Instr × (Byte → Instr) × (Byte → Instr))),
      reads [0xCB, w.1] w.2.1 ∧ ∀ d, reads [0xDD, 0xCB, d, w.1] (w.2.2.1 d) ∧ reads [0xFD, 0xCB, d, w.1] (w.2.2.2 d)) ∧
    (∀ b : BitVec 3, ∀ w ∈ ([(1, .bitBAtHl, .bitBAtIxD, .bitBAtIyD), (2, .resBAtHl, .resBAtIxD, .resBAtIyD),
        (3, .setBAtHl, .setBAtIxD, .setBAtIyD)] :
        List (BitVec 2 × (BitVec 3 → Instr) × (BitVec 3 → Byte → Instr) × (BitVec 3 → Byte → Instr))),
      let op := w.1 ++ b ++ 6#3
      reads [0xCB, op] (w.2.1 b) ∧ ∀ d, reads [0xDD, 0xCB, d, op] (w.2.2.1 b d) ∧ reads [0xFD, 0xCB, d, op] (w.2.2.2 b d)) ∧
    (∀ x : BitVec 3, refuses [0xCB, 6#5 ++ x]) ∧
    ∀ d op : Byte, op.extractLsb' 0 3 ≠ 6 ∨ op = 0x36 → refuses [0xDD, 0xCB, d, op] ∧ refuses [0xFD, 0xCB, d, op]

/-! The step -/

/-- A step runs the decoded instruction: where no event is due, the bootstrap is not in control and, at a boundary, no
interrupt is due and no fetch intercepted, the step is the instruction the bytes at the program counter decode to, run with
the program counter past it and its first byte's address remembered; bytes that are no instruction are refused
(`10_state.md` R25, `30_encoding.md` R120, R135; the order of events, the remembered address and the refusal are the model's,
log 19, 21, 23). -/
def Obligations.StepRunsInstr : Prop := ∀ s : State, (∀ e rest, s.inbox ≠ (0, e) :: rest) → s.dev.boot.active = false →
  (s.atBoundary = true → s.interruptDue = none ∧ s.bootIntercepts = false) →
  (∀ i rest, decode s.cfg.rev s.cfg.opcodes s.fetched.1 = .ok (i, rest) → ∃ n, step s = exec i { s with
    cpu := { s.cpu with
      pc := s.cpu.pc + BitVec.ofNat 16 (4 - rest.length)
      start := if s.cpu.altd = false ∧ s.cpu.iospace = .memory then s.cpu.pc else s.cpu.start }
    dev := { s.dev with free := n }
    inbox := laterInbox s.inbox }) ∧
  (∀ page op, decode s.cfg.rev s.cfg.opcodes s.fetched.1 = .error (.unassigned page op) → step s = .refused (.unassignedOpcode page op))

/-- The bytes an instruction is decoded from are the four at the program counter and after it, modulo 2^16, each through
the translation of a fetch; reading them changes nothing where memory drives the bus (`10_state.md` R25, `20_memory.md` R50,
R61).  That addresses past 0xFFFF go on at 0 and that every byte read through PC is of kind fetch are R25's and R61's own
inferences, marked [derived] (D6, D7). -/
def Obligations.FetchedBytes : Prop := ∀ s : State,
  (∀ k : Fin 4, s.physDriven (inXpcWindow s.dev.mmu (s.cpu.pc + BitVec.ofNat 16 k)) (s.fetchPhys (s.cpu.pc + BitVec.ofNat 16 k)) = true) →
  s.fetched = ((List.range 4).map fun k => cellRead s.mem (s.fetchCell (s.cpu.pc + BitVec.ofNat 16 k)), s)

/-! Memory -/

/-- The segment of a logical address, from its upper four bits and the two fields of SEGSIZE (`20_memory.md` R59).  That the
stack boundary is tested before the data boundary, which matters when the fields cross, is what R59 itself marks [derived]. -/
def Obligations.SegmentOfAddress : Prop := ∀ (m : Mmu) (a : Word),
  let n := a.toNat / 4096
  segOf m a =
    if 14 ≤ n then .xpc
    else if m.segsize.toNat / 16 ≤ n then .stack
    else if m.segsize.toNat % 16 ≤ n then .data
    else .root

/-- The physical address: the segment register, times 4096, added modulo 2^20, then the A16 and A19 inversions of the root
and data segments, which with the instruction/data split do not apply to a fetch outside the RAM segment
(`20_memory.md` R60 to R62).  That every byte read through PC is of kind fetch, and that the RAM segment is tested for each
fetched byte, are the spec's own inferences (D7 in R61, D21 in R62). -/
def Obligations.TranslationFormula : Prop := ∀ (rev : Rev) (m : Mmu) (xpc : Byte) (a : Word) (k : Access),
  let seg := segOf m a
  let base : Byte := match seg with | .root => 0 | .data => m.dataseg | .stack => m.stackseg | .xpc => xpc
  let code := m.ramsr.toNat % 4
  let ram := rev = .r3000A ∧ (code = 1 ∧ a.toNat / 1024 = m.ramsr.toNat / 4 ∨
    code = 2 ∧ a.toNat / 2048 = m.ramsr.toNat / 8 ∨ code = 3 ∧ a.toNat / 4096 = m.ramsr.toNat / 16)
  let on := m.mmidr.getLsbD 5 = false ∨ k = .data ∨ ram
  let flip16 := on ∧ (seg = .root ∧ m.mmidr.getLsbD 0 = true ∨ seg = .data ∧ m.mmidr.getLsbD 2 = true)
  let flip19 := on ∧ (seg = .root ∧ m.mmidr.getLsbD 1 = true ∨ seg = .data ∧ m.mmidr.getLsbD 3 = true)
  let pa := BitVec.ofNat 20 (a.toNat + base.toNat * 4096)
  ∀ b : Nat, (translate rev m xpc a k).getLsbD b =
    ((pa.getLsbD b != decide (b = 16 ∧ flip16)) != decide (b = 19 ∧ flip19))

/-- The memory interface unit: the bank register of the quadrant (or of MECR for an XPC access), the chip select, the enable
pair, the A19 and A18 inversions; while MMIDR[4] forces /CS1 active, the device behind /CS1 with the same enable pair is
selected as well.  A device that sees fewer address lines repeats.  A read is driven where exactly one selected device is
there; a write reaches each of them, and changes RAM where neither protection nor the bank inhibits it (`20_memory.md` R64,
R76; `21_memory_interface.md` R90, R110).  Which devices there are, and that two that drive at once give an unspecified byte,
are log 5.  That protection ORs the 64 KB bit with the 4 KB page bits, on the address before the inversions, is the spec's
own decision (R110, D15). -/
def Obligations.BankSelection : Prop := ∀ (s : State) (xpcWindow : Bool) (pa : Phys),
  let m := s.dev.mmu
  let q : Fin 4 := if m.mecr.getLsbD 2 = true ∧ xpcWindow = true then (m.mecr.extractLsb' 0 2).toFin
    else (pa.extractLsb' 18 2).toFin
  let mb := m.mbcr[q]
  let cs : Fin 3 := if mb.toNat % 4 = 0 then 0 else if mb.toNat % 4 = 1 then 1 else 2
  let pair : Fin 2 := if mb.getLsbD 2 then 1 else 0
  let device := fun c : Fin 3 => (⟨2 * c.val + pair.val, by have := c.isLt; have := pair.isLt; omega⟩ : Fin 6)
  let both := m.mmidr.getLsbD 4 = true ∧ cs ≠ 1
  let present := fun i : Fin 6 => s.cfg.devices[i].kind ≠ .absent
  let seen := (pa.toNat ^^^ (mb.toNat / 32 % 2 * 2 ^ 19)) ^^^ (mb.toNat / 16 % 2 * 2 ^ 18)
  let cell := fun i : Fin 6 => i.val * 2 ^ 20 + seen % 2 ^ s.cfg.devices[i].addrBits % 2 ^ 20
  let pulse := s.physProtected pa = false ∧ mb.getLsbD 3 = false
  physCell s.cfg m xpcWindow pa =
    cell (if both ∧ ¬present (device cs) ∧ present (device 1) then device 1 else device cs) ∧
  (s.physDriven xpcWindow pa = true ↔ ¬(present (device cs) ↔ both ∧ present (device 1))) ∧
  ∀ c, c ∈ s.physTargets xpcWindow pa ↔ ∃ i, (i = device cs ∨ both ∧ i = device 1) ∧ present i ∧
    c = (cell i, decide (pulse ∧ s.cfg.devices[i].kind = .ram))

/-- Where no reset falls inside it, a data write is read back, leaves the byte at every cell it does not reach, and where it
is lost leaves every byte (`20_memory.md` R51, R64, R76; `00_scope.md` R11). -/
def Obligations.WriteReadsBack : Prop := ∀ (s : State) (a b : Word) (v : Byte), Memory.wf s.mem = true → s.writesLeft = none →
  (s.memWritable a = true → (s.memWrite a v).peek a = v) ∧
  (s.dataCell b ∉ s.dataCells a → (s.memWrite a v).peek b = s.peek b) ∧
  ((∀ c ∈ s.dataTargets a, c.2 = false) → (s.memWrite a v).peek b = s.peek b)

/-- A load in memory space gives the byte of the address's cell and changes nothing; a word load gives the byte at the next
address, modulo 2^16, as its high half; in the I/O spaces the address is not translated (`20_memory.md` R65, R66, R72). -/
def Obligations.DataLoads : Prop := ∀ (s : State) (a : Word),
  let driven := fun x : Word => s.physDriven (inXpcWindow s.dev.mmu x) (s.dataPhys x)
  (s.cpu.iospace = .memory → driven a = true → s.load8 a = (cellRead s.mem (s.dataCell a), s)) ∧
  (s.cpu.iospace = .memory → driven a = true → driven (a + 1) = true →
    s.load16 a = (cellRead s.mem (s.dataCell (a + 1)) ++ cellRead s.mem (s.dataCell a), s)) ∧
  (s.cpu.iospace = .internal → (s.load8 a).1 = (ioReadInternal s.cfg s.userMode s.dev a).1 ∧ (s.load8 a).2.mem = s.mem) ∧
  (s.cpu.iospace = .external → (s.load8 a).1 = (ioReadExternal s.cfg s.userMode s.dev a).1 ∧ (s.load8 a).2.mem = s.mem)

/-- Write protection: active with WPCR[0] or in User mode; a 64 KB block, or a 4 KB page of one of two blocks, is protected;
a write there changes no byte and requests the interrupt, and no other write requests it (`21_memory_interface.md` R106 to
R110; `writesLeft = none`: no reset has ended the instruction, log 42).  That the 64 KB bit and the 4 KB page bits are OR-ed,
and that the address tested is the one before the MBxCR inversions, is the spec's own decision (R110, D15). -/
def Obligations.WriteProtection : Prop := ∀ (s : State) (w : Bool) (pa : Phys) (v : Byte),
  let m := s.dev.mmu
  let blk := pa.toNat / 65536
  let pg := pa.toNat / 4096 % 16
  let active := s.cfg.rev = .r3000A ∧ (m.wpcr.getLsbD 0 = true ∨ s.userMode = true)
  let whole := (m.wphr ++ m.wplr).getLsbD blk = true
  let paged := ∃ x : Fin 2, blk = m.wpsr[x].toNat % 16 ∧ (m.wpshr[x] ++ m.wpslr[x]).getLsbD pg = true
  let t := s.physWrite w pa v
  (s.writesLeft = none → active ∧ (whole ∨ paged) → t = { s with dev := { s.dev with viol := { s.dev.viol with writeProtect := true } } }) ∧
  (¬(active ∧ (whole ∨ paged)) → t.dev = s.dev)

/-- The stack limits: checked with STKCR[0] or in User mode, against STKLLR:10 and STKHLR:00 - 11 hex, modulo 2^16; an
access outside requests the interrupt and is performed all the same (`21_memory_interface.md` R102 to R105; that it is
performed is the choice of log 22).  Which accesses are relative to the stack, and that the logical address is compared, is
R105's own reading, marked [derived]. -/
def Obligations.StackLimits : Prop := ∀ (s : State) (a : Word) (v : Byte),
  let m := s.dev.mmu
  let active := s.cfg.rev = .r3000A ∧ (m.stkcr.getLsbD 0 = true ∨ s.userMode = true)
  let outside := a.toNat < m.stkllr.toNat * 256 + 16 ∨ (m.stkhlr.toNat * 256 + 65536 - 17) % 65536 < a.toNat
  let hit := s.dev.viol.stackLimit = true ∨ active ∧ outside
  ((s.stackRead a).1 = s.peek a ∧ ((s.stackRead a).2.dev.viol.stackLimit = true ↔ hit)) ∧
  ((s.stackWrite a v).mem = (s.memWrite a v).mem ∧ ((s.stackWrite a v).dev.viol.stackLimit = true ↔ hit))

/-! I/O space and the two modes -/

/-- The internal I/O space repeats every 256 addresses on the original chip and, while MMIDR[7] = 0, on the 3000A; with
MMIDR[7] = 1 the whole address names the location, so that EDMR is reached; an unoccupied location ignores a write
(`20_memory.md` R52, R73, `11_io_register_map.md` R957).  That bit 0 of EDMR is EDMF is PRESUMED, log 15 (`60_exceptions.md`
R651, G6: general knowledge); that all 16 bits are decoded is the spec's decision D12.  That an unoccupied location ignores a
write is the spec's own decision too (D13 in R73 and R957), for the manual says nothing of such accesses. -/
def Obligations.InternalIoLocations : Prop := ∀ (cfg : Params) (user : Bool) (d : Dev) (a b : Word) (v : Byte),
  (cfg.rev = .r3000 ∨ d.mmu.mmidr.getLsbD 7 = false → a.toNat % 256 = b.toNat % 256 →
    ioReadInternal cfg user d a = ioReadInternal cfg user d b ∧
    ioWriteInternal cfg user d a v = ioWriteInternal cfg user d b v) ∧
  (cfg.rev = .r3000A → d.mmu.mmidr.getLsbD 7 = true →
    (∃ e, ioWriteInternal cfg false d 0x0420 1 = .ok e ∧ e.edmf = true) ∧
    (IoReg.ofAddr .r3000A a.toNat = none → ioWriteInternal cfg user d a v = .ok d))

/-- User mode is confined: no instruction run in User mode changes a memory-management, protection, user-enable, clock,
global-control or watchdog register; and while no peripheral is enabled for User mode, of all the devices only the count of
free values, the violation requests, the auxiliary address latch and the record of external I/O can change
(`60_exceptions.md` R655, R656; which bits enable a peripheral and what a blocked strobe does are logs 15 and 27; that no
time passes inside a 16-bit I/O read is the premise `inside = 0` of the second clause, log 18).  That a User-mode read that
is denied has no side effect, on which the second clause rests for every read, is the spec's own decision (R655, D29): the
source restricts writes only. -/
def Obligations.UserModeConfined : Prop := ∀ (s t : State) (i : Instr), s.userMode = true → exec i s = .next t →
  (t.dev.mmu = s.dev.mmu ∧ t.dev.user = s.dev.user ∧ t.dev.sys = s.dev.sys ∧ t.dev.wdt = s.dev.wdt ∧ t.cfg = s.cfg) ∧
  (s.dev.user.uer = Vector.replicate 22 0 → s.dev.inside = 0 → t.dev = { s.dev with
    free := t.dev.free
    viol := t.dev.viol
    bus := { s.dev.bus with auxAddr := t.dev.bus.auxAddr }
    outLog := t.dev.outLog })

/-- The clearing actions: the access that clears each request flip-flop, after which nothing of the request is left; and the
acknowledge, which clears the three violation requests and the catchers of an external interrupt, each for its own source,
and no other request; a master write to SPD0R sets the slave port's request, and a slave read or write of SPD0R then clears it
(`60_exceptions.md` R606, R635).  That a slave read of SPD0R to SPD2R, or any slave write of these or of
SPSR, leaves nothing of the slave port's request rests on its one request flip-flop, where the manual's table splits read and
write: a decision of the spec and the model's choice (`64_serial_slave.md` R875, D35, log 34). -/
def Obligations.RequestsCleared : Prop := ∀ (cfg : Params) (d : Dev),
  let after := fun a : Word => (ioReadInternal cfg false d a).2
  let written := fun (a : Word) (v : Byte) (ok : Dev → Prop) => ∃ e, ioWriteInternal cfg false d a v = .ok e ∧ ok e
  (IntSource.periodic.pending (after 0x00) = false ∧ (after 0x00).sys.cause = 0) ∧
  IntSource.quadrature.pending (after 0x90) = false ∧ IntSource.timerB.pending (after 0xB0) = false ∧
  IntSource.timerA.pending (after 0xA0) = false ∧ IntSource.capture.pending (after 0x56) = false ∧
  (∀ a ∈ ([0x20, 0x21, 0x22] : List Word), IntSource.slave.pending (after a) = false) ∧
  (∀ a ∈ ([0x20, 0x21, 0x22, 0x23] : List Word), ∀ v, written a v fun e => IntSource.slave.pending e = false) ∧
  (∀ a ∈ ([0x88, 0x89, 0x8A, 0x8B, 0x8C, 0x8D, 0x8E, 0x8F] : List Word), ∀ v,
    written a v fun e => IntSource.pwm.pending e = false) ∧
  (cfg.rev = .r3000A → written 0x08 0x5F fun e => IntSource.secondaryWatchdog.pending e = false) ∧
  (∀ p ∈ ([(.a, 0xC0), (.b, 0xD0), (.c, 0xE0), (.d, 0xF0), (.e, 0xC8), (.f, 0xD8)] : List (SerialId × Word)),
    ((d.ser p.1).rxWait = [] → ∀ k ∈ ([0, 1] : List Word),
      (IntSource.serial p.1).pending (after (p.2 + k)) = (d.ser p.1).txReq) ∧
    ∀ v, written (p.2 + 3) v fun e => (e.ser p.1).txReq = false ∧ (e.ser p.1).txd = (d.ser p.1).txd) ∧
  (∀ src other : IntSource, other.pending (acknowledge d src) = (other.pending d && !(decide (other = src) &&
    decide (src ∈ ([.systemMode, .stackLimit, .writeProtect, .external0, .external1] : List IntSource))))) ∧
  ∀ (p : SlavePort) (v : Byte), (p.masterWrite 0 v).req = true ∧ ((p.masterWrite 0 v).readIn 0).2.req = false ∧
    (p.writeOut 0 v).req = false

/-! Interrupts and privilege -/

/-- Which interrupt the acceptance test takes: none after a privileged instruction; else a pending source whose priority is
above the processor's, of the highest priority, and among equals the first in the manual's order; and a source assigned to
User mode asks for level 2 where its field says 3 (`60_exceptions.md` R606 to R611).  Two clauses are the model's choice, on
inferences the spec marks as its own: the request is what the flip-flops say at the boundary (R605, log 24), and the demotion
to level 2 does not depend on EDMF (R607, N40, log 15). -/
def Obligations.SelectionOrder : Prop := ∀ s : State,
  let prio := fun x : IntSource => (x.prio s.cfg s.dev).toNat
  let cand := fun x : IntSource => x.pending s.dev = true ∧ s.cpu.ip.toNat % 4 < prio x
  let rank := fun x : IntSource => IntSource.order.idxOf x
  (∀ x, s.interruptDue = some x ↔ s.cpu.defer = false ∧ cand x ∧
    ∀ y, cand y → prio y < prio x ∨ (prio y = prio x ∧ rank x ≤ rank y)) ∧
  (s.interruptDue = none ↔ s.cpu.defer = true ∨ ∀ x, ¬cand x) ∧
  (∀ x ∈ ([.systemMode, .stackLimit, .writeProtect, .secondaryWatchdog] : List IntSource), prio x = 3) ∧
  ∀ x, prio x = if (x.field s.dev).toNat = 3 ∧
    (∃ k, x.userIndex = some k ∧ userEnabled s.cfg s.dev k = true) then 2 else (x.field s.dev).toNat

/-- Interrupt entry: the step takes the interrupt that is due; it clears what the acknowledge clears, pushes the program
counter (but for the erratum of the original chip, where SP moves and nothing is stored), pushes the source's priority on IP
and System mode on SU, and goes on at the vector; no other CPU register changes (`60_exceptions.md` R620, R653;
`70_reset_and_hazards.md` R930).  Outside the stack limits the address is pushed all the same and the interrupt is requested
(`21_memory_interface.md` R105, D14): the model's choice, log 22.  That the mode is pushed whether or not EDMF is set is
R653's own inference, marked [derived]. -/
def Obligations.InterruptEntry : Prop := ∀ (s : State) (src : IntSource) (v : Word),
  (∀ e rest, s.inbox ≠ (0, e) :: rest) → s.dev.boot.active = false → s.cpu.altd = false → s.cpu.iospace = .memory →
  s.interruptDue = some src → src.vector s.cfg s.cpu.iir s.cpu.eir = some v →
  ∃ t, step s = .next t ∧
    t.cpu = { s.cpu with
      sp := s.cpu.sp - 2
      ip := s.cpu.ip.extractLsb' 0 6 ++ src.prio s.cfg s.dev
      su := match s.cfg.rev with | .r3000 => s.cpu.su | .r3000A => s.cpu.su.extractLsb' 0 6 ++ 0#2
      pc := v, defer := false, lastIo := false } ∧
    let u := { s with inbox := laterInbox s.inbox, dev := acknowledge s.dev src }
    (s.pushLost = false → s.writesLeft = none → MemoryAfter u t true (pushBytes s.cpu.sp s.cpu.pc)) ∧
    (s.pushLost = true → t.mem = s.mem ∧ SameDevices u t)

/-- The vectors: the nine-bit offsets in the internal table, {IIR[7:1], offset}, and the external ones, {EIR, 00} and {EIR, 10};
the PWM has a vector only where the parameter of log 13 gives one, and without one it is refused (`60_exceptions.md` R630). -/
def Obligations.VectorTable : Prop := ∀ (cfg : Params) (iir eir : Byte),
  (∀ p ∈ ([(.periodic, 0x000), (.secondaryWatchdog, 0x010), (.slave, 0x080), (.writeProtect, 0x090), (.timerA, 0x0A0),
      (.timerB, 0x0B0), (.serial .a, 0x0C0), (.serial .b, 0x0D0), (.serial .c, 0x0E0), (.serial .d, 0x0F0),
      (.systemMode, 0x180), (.quadrature, 0x190), (.capture, 0x1A0), (.stackLimit, 0x1B0), (.serial .e, 0x1C0),
      (.serial .f, 0x1D0)] : List (IntSource × Nat)),
    p.1.vector cfg iir eir = some (BitVec.ofNat 16 (iir.toNat / 2 * 512 + p.2))) ∧
  IntSource.external0.vector cfg iir eir = some (BitVec.ofNat 16 (eir.toNat * 256)) ∧
  IntSource.external1.vector cfg iir eir = some (BitVec.ofNat 16 (eir.toNat * 256 + 16)) ∧
  (IntSource.pwm.vector cfg iir eir = none ↔ cfg.pwmVector = none) ∧
  ∀ s : State, IntSource.pwm.vector s.cfg s.cpu.iir s.cpu.eir = none → s.takeInterrupt .pwm = .refused .pwmVectorOpen

/-- The conditions, by their codes, on Z, C, L/V and S of the main F, as JP f, JR cc and RET f test them
(`47_control.md` R500). -/
def Obligations.ConditionTable : Prop := ∀ s : State,
  let holds := fun (code : Nat) (f : Byte) =>
    ([flagZ f, flagC f, flagLv f, flagS f].getD (code / 2) false) == decide (code % 2 = 1)
  (∀ c : BitVec 3, ∀ f : Byte, condHolds (Cond.ofCode c) f = holds c.toNat f) ∧
  (∀ c : BitVec 2, ∀ f : Byte, ccHolds (CC.ofCode c) f = holds c.toNat f) ∧
  (∀ c : BitVec 3, ∀ mn, CompletesCpu (.jpFMn (Cond.ofCode c) mn) s
    { s.cpu with pc := if holds c.toNat s.cpu.main.f then mn else s.cpu.pc }) ∧
  (∀ c : BitVec 2, ∀ e, CompletesCpu (.jrCcE (CC.ofCode c) e) s
    { s.cpu with pc := if holds c.toNat s.cpu.main.f then s.cpu.pc + e.signExtend 16 else s.cpu.pc }) ∧
  ∀ c : BitVec 3, holds c.toNat s.cpu.main.f = false → CompletesCpu (.retF (Cond.ofCode c)) s s.cpu

/-- Every instruction but a prefix consumes the prefix latches and leaves the interrupt deferral set exactly if it is one of
the privileged instructions (`48_misc_privileged.md` R540, R541; `46_prefix_block.md` R470, R475).  That a prefix the
instruction does not take is consumed too is the spec's own decision (D16 in R472, D17 in R477). -/
def Obligations.LatchesConsumed : Prop := ∀ (s t : State) (i : Instr), isPrefix i = false → exec i s = .next t →
  t.cpu.altd = false ∧ t.cpu.iospace = .memory ∧ t.cpu.defer = privileged i

/-- Who writes the control registers: IP, SU, XPC, IIR and EIR change only by the instructions named; of the
instructions only SURES, POP SU, RST and SYSCALL leave User mode (`10_state.md` R26 to R29, `60_exceptions.md` R653).  That
RST and SYSCALL push the mode whether or not EDMF is set is R653's own inference, marked [derived]. -/
def Obligations.ControlRegisterWriters : Prop := ∀ (s t : State) (i : Instr), exec i s = .next t →
  (t.cpu.ip ≠ s.cpu.ip → i ∈ [.ipset0, .ipset1, .ipset2, .ipset3, .ipres, .popIp, .reti]) ∧
  (t.cpu.su ≠ s.cpu.su → i ∈ [.setusr, .sures, .popSu, .syscall] ∨ ∃ v, i = .rstV v) ∧
  (t.cpu.xpc ≠ s.cpu.xpc → i = .ldXpcA ∨ i = .lret ∨ (∃ x mn, i = .ljpXMn x mn) ∨ ∃ x mn, i = .lcallXMn x mn) ∧
  (t.cpu.iir ≠ s.cpu.iir → i = .ldIirA) ∧ (t.cpu.eir ≠ s.cpu.eir → i = .ldEirA) ∧
  (s.cpu.su.getLsbD 0 = true → t.cpu.su.getLsbD 0 = false → i ∈ [.sures, .popSu, .syscall] ∨ ∃ v, i = .rstV v)

/-! Reset and the invariant -/

/-- What reset leaves in the CPU, whatever went before: SP, PC, IIR and EIR zero, IP all ones, System mode, no latch, no
request; the byte registers and F of both sets are not affected (`10_state.md` R40); the same registers after a reset that
falls inside a step (`70_reset_and_hazards.md` R900).  That no latch and no deferral is left is D4, a decision that R40 marks;
what else a reset of the running machine does is log 25, one inside a step log 42. -/
def Obligations.ResetValues : Prop :=
  let clean := fun t : State => t.cpu.sp = 0 ∧ t.cpu.pc = 0 ∧ t.cpu.iir = 0 ∧ t.cpu.eir = 0 ∧ t.cpu.ip = 0xFF ∧
    t.cpu.su.extractLsb' 0 2 = 0 ∧ t.cpu.altd = false ∧ t.cpu.iospace = .memory ∧ t.cpu.defer = false ∧
    t.dev.user.edmr = 0 ∧ ∀ x : IntSource, x.pending t.dev = false
  clean State.reset ∧ ∀ (s : State) (cause : BitVec 2) (period : BitVec 17),
    clean (s.warmReset cause period) ∧ (s.warmReset cause period).cpu.main = s.cpu.main ∧
    (s.warmReset cause period).cpu.alt = s.cpu.alt ∧ ∀ k u, s.resetInside k = .next u → clean u

/-- The invariant holds after reset (what memory and the open register bits hold then is the model's, logs 3
and 4). -/
def Obligations.ResetMeetsInvariant : Prop := MachineInv State.reset

/-- Every step keeps the invariant and the parameters: memory in its canonical form, the reserved bits of the device registers
at zero (`21_memory_interface.md` R90 to R108, `60_exceptions.md` R651, `61_system_management.md` R674, R675,
`62_ports_io_banks.md` R723; on REV = R3000 those of MTCR and BDCR are unspecified after a reset, R97, R98, and the invariant
says nothing of them); and a step begun outside an instruction that a reset ends is finished outside one (log 42). -/
def Obligations.StepKeepsInvariant : Prop := ∀ s t : State, MachineInv s → step s = .next t →
  MachineInv t ∧ t.cfg = s.cfg ∧ (s.writesLeft = none → t.writesLeft = none)

/-- The primary watchdog: it counts the 32 kHz cycles; short of its period nothing is reset; at its period the machine is
reset with cause 01 and the period kept; and the codes 5A, 57, 59, 53 written to WDTCR restart it with their period
(`61_system_management.md` R682, `70_reset_and_hazards.md` R900). -/
def Obligations.WatchdogResets : Prop := ∀ s : State, s.dev.wdt.disabled = false → s.dev.wdt.testing = false →
  (∀ n, s.dev.wdt.count.toNat + n < s.dev.wdt.period.toNat → (State.ticks32k n s).cpu = s.cpu ∧
    (State.ticks32k n s).mem = s.mem ∧ (State.ticks32k n s).dev.wdt.count.toNat = s.dev.wdt.count.toNat + n) ∧
  (s.dev.wdt.count.toNat + 1 = s.dev.wdt.period.toNat → let t := s.tick32k
    t.cpu.pc = 0 ∧ t.cpu.sp = 0 ∧ t.cpu.ip = 0xFF ∧ t.mem = s.mem ∧ t.dev.sys.cause = 1 ∧ t.dev.wdt.count = 0 ∧
    t.dev.wdt.period = s.dev.wdt.period) ∧
  ∀ c ∈ ([(0x5A, 0x10000), (0x57, 0x8000), (0x59, 0x4000), (0x53, 0x2000)] : List (Byte × BitVec 17)),
    ∃ e, ioWriteInternal s.cfg false s.dev 0x08 c.1 = .ok e ∧ e.wdt.count = 0 ∧ e.wdt.period = c.2

/-- The real-time clock counts the 32 kHz cycles modulo 2^48, whatever the watchdog does meanwhile; a write to RTC0R
copies it, and RTC0R to RTC5R then read the copy's six bytes, the lowest first (`61_system_management.md` R680).  That the
count goes on in byte-increment mode is R681's own inference, marked [derived]. -/
def Obligations.RealTimeClock : Prop := ∀ s : State,
  (∀ n, (State.ticks32k n s).dev.rtc.count = s.dev.rtc.count + BitVec.ofNat 48 n) ∧
  (∀ v, ∃ e, ioWriteInternal s.cfg false s.dev 0x02 v = .ok e ∧ e.rtc.hold = s.dev.rtc.count ∧
    e.rtc.count = s.dev.rtc.count) ∧
  ∀ k : Fin 6, ioReadInternal s.cfg false s.dev (2 + BitVec.ofNat 16 k) =
    (BitVec.ofNat 8 (s.dev.rtc.hold.toNat / 256 ^ k.val), s.dev)

/-! Peripherals -/

/-- A unit of Timer A not chained behind A1 divides by its reload value plus one: it counts down once a pulse, and on the
pulse after it reaches zero it takes its reload value and, for A1 to A7, sets its status bit
(`63_timers_capture_pwm_qd.md` R771, R772).  That the status bit is set on the pulse that finds the counter at zero, and not
before, is R771's own inference, marked derived ("The manual does not say whether the output coincides with reaching zero or
with the reload; only the ratio is architectural."): log 44. -/
def Obligations.TimerDivides : Prop := ∀ (t : TimerA) (i : Fin 10),
  (1 ≤ i.val → i.val ≤ 6 → t.tacr.getLsbD (i.val + 1) = false) →
  (∀ k, k ≤ t.count[i].toNat → (timerTicks k t).count[i].toNat = t.count[i].toNat - k) ∧
  (timerTicks (t.count[i].toNat + 1) t).count[i] = t.reload[i] ∧
  (i.val ≤ 6 → (timerTicks (t.count[i].toNat + 1) t).done.getLsbD (i.val + 1) = true ∧
    ∀ k, k ≤ t.count[i].toNat → (timerTicks k t).done.getLsbD (i.val + 1) = t.done.getLsbD (i.val + 1))

/-- Characters reach the program in the order they arrived: two delivered to an empty port are read one after the other, the
status saying so, each read clearing the bit or showing the next; a third with no room sets the overrun bit
(`64_serial_slave.md` R832, R835, R852; how deep Ports E and F are is the parameter of log 16, the corners log 33). -/
def Obligations.SerialReceive : Prop := ∀ (cfg : Params) (d : Dev) (p : SerialId) (c1 c2 c3 : RxChar),
  (d.ser p).rxFull = false → (d.ser p).rxWait = [] → (d.ser p).overrun = false → 1 ≤ cfg.fifoDepth →
  let full := fun e : Dev => (serialStatus e p).getLsbD 7
  let e1 := serialDeliver cfg d p c1
  let e2 := serialDeliver cfg e1 p c2
  let f1 := (serialRead e2 p false).2
  full d = false ∧ full e1 = true ∧ (serialRead e1 p false).1 = c1.data ∧ full (serialRead e1 p false).2 = false ∧
  (serialRead e2 p false).1 = c1.data ∧ full f1 = true ∧ (serialRead f1 p false).1 = c2.data ∧
  full (serialRead f1 p false).2 = false ∧
  (p ∈ ([.a, .b, .c, .d] : List SerialId) → (serialStatus (serialDeliver cfg e2 p c3) p).getLsbD 5 = true)

/-- The slave port's status: each bit of SPSR is set and cleared by the accesses of R874's table and by no other access of these
registers, and a reset clears it; a read of SPSR from either side changes nothing, and a write from either side stores nothing
and clears what requests the interrupt; bit 3 is the complement of the level on /SLAVEATTN; and what one side writes to a data
register the other side reads there (`64_serial_slave.md` R874). -/
def Obligations.SlavePortTransfers : Prop :=
  (∀ (p : SlavePort) (v : Byte),
    let becomes := fun (q : SlavePort) (set clear : List Nat) => ∀ k, k < 8 →
      q.spsr.getLsbD k = (decide (k ∈ set) || (p.spsr.getLsbD k && !decide (k ∈ clear)))
    (becomes (p.masterWrite 0 v) [7, 4] [] ∧ becomes (p.masterWrite 1 v) [5] [] ∧ becomes (p.masterWrite 2 v) [6] []) ∧
    (becomes (p.readIn 0).2 [] [4] ∧ becomes (p.readIn 1).2 [] [5] ∧ becomes (p.readIn 2).2 [] [6]) ∧
    (becomes (p.writeOut 0 v) [3, 0] [] ∧ becomes (p.writeOut 1 v) [1] [] ∧ becomes (p.writeOut 2 v) [2] []) ∧
    (becomes (p.masterRead 0).2 [] [0] ∧ becomes (p.masterRead 1).2 [] [1] ∧ becomes (p.masterRead 2).2 [] [2]) ∧
    (becomes p.writeStatus [] [7] ∧ p.writeStatus = { p with spsr := p.writeStatus.spsr, req := false }) ∧
    (becomes (p.masterWrite 3 v) [] [3] ∧ p.masterWrite 3 v = { p with spsr := (p.masterWrite 3 v).spsr }) ∧
    p.masterRead 3 = (p.spsr, p) ∧
    (((p.masterWrite 0 v).readIn 0).1 = v ∧ ((p.masterWrite 1 v).readIn 1).1 = v ∧ ((p.masterWrite 2 v).readIn 2).1 = v) ∧
    ((p.writeOut 0 v).masterRead 0).1 = v ∧ ((p.writeOut 1 v).masterRead 1).1 = v ∧ ((p.writeOut 2 v).masterRead 2).1 = v) ∧
  (∀ (cfg : Params) (d : Dev) (v : Byte), ioReadInternal cfg false d 0x23 = (d.slave.spsr, d) ∧
    ioWriteInternal cfg false d 0x23 v = .ok { d with slave := d.slave.writeStatus } ∧
    (d.slave.mode = 2 → levelB d 7 = some (!d.slave.spsr.getLsbD 3))) ∧
  (∀ (cfg : Params) (d : Dev) (v : Byte) (n : Fin 3), let a : Word := 0x20 + BitVec.ofNat 16 n.val
    ioReadInternal cfg false d a = ((d.slave.readIn n).1, { d with slave := (d.slave.readIn n).2 }) ∧
    ioWriteInternal cfg false d a v = .ok { d with slave := d.slave.writeOut n v }) ∧
  ∀ rev fill cause period old, (Dev.atReset rev fill cause period old).slave.spsr = 0

/-- An output of Ports D to G: with every bit an output, no alternate function, no open drain and the transfer on perclk/2,
a byte written to the data register is what a read of the port gives, but for PE7, which is the slave port's chip select input
while that port is enabled (`62_ports_io_banks.md` R720, R724 to R726, `64_serial_slave.md` R871; that this transfer is
immediate is the choice of log 29).  That a pin the chip drives has the level driven is R720's own inference, marked
[derived]. -/
def Obligations.PortOutputsReadBack : Prop := ∀ (rev : Rev) (d : Dev) (t : TPort) (v : Byte),
  (d.ports.timed t).ddr = 0xFF → (d.ports.timed t).fr = 0 → (d.ports.timed t).dcr = 0 → (d.ports.timed t).cr = 0 →
  let e := d.setTimed t ((d.ports.timed t).writeData v)
  readPins rev e t.port = (if t = .e ∧ d.slave.mode = 2 then d.pins.e.extractLsb' 7 1 ++ v.extractLsb' 0 7 else v, e)
end

