-- ==== Sys2Proof/Laws/State.lean ====
section
/-! SUPPORT. The lemmas of State: one per field per update. -/
namespace Sys2Proof.Machine

/-! The updates of `Operands.lean` -/
@[simp] theorem State.onMain_cfg (s : State) (g : RegSet → RegSet) : (s.onMain g).cfg = s.cfg := rfl
@[simp] theorem State.onMain_mem (s : State) (g : RegSet → RegSet) : (s.onMain g).mem = s.mem := rfl
@[simp] theorem State.onMain_dev (s : State) (g : RegSet → RegSet) : (s.onMain g).dev = s.dev := rfl
@[simp] theorem State.onMain_inbox (s : State) (g : RegSet → RegSet) : (s.onMain g).inbox = s.inbox := rfl
@[simp] theorem State.onMain_writesLeft (s : State) (g : RegSet → RegSet) : (s.onMain g).writesLeft = s.writesLeft := rfl
@[simp] theorem State.onMain_cpu_main (s : State) (g : RegSet → RegSet) : (s.onMain g).cpu.main = g s.cpu.main := rfl
@[simp] theorem State.onMain_cpu_alt (s : State) (g : RegSet → RegSet) : (s.onMain g).cpu.alt = s.cpu.alt := rfl
@[simp] theorem State.onMain_cpu_ix (s : State) (g : RegSet → RegSet) : (s.onMain g).cpu.ix = s.cpu.ix := rfl
@[simp] theorem State.onMain_cpu_iy (s : State) (g : RegSet → RegSet) : (s.onMain g).cpu.iy = s.cpu.iy := rfl
@[simp] theorem State.onMain_cpu_sp (s : State) (g : RegSet → RegSet) : (s.onMain g).cpu.sp = s.cpu.sp := rfl
@[simp] theorem State.onMain_cpu_pc (s : State) (g : RegSet → RegSet) : (s.onMain g).cpu.pc = s.cpu.pc := rfl
@[simp] theorem State.onMain_cpu_xpc (s : State) (g : RegSet → RegSet) : (s.onMain g).cpu.xpc = s.cpu.xpc := rfl
@[simp] theorem State.onMain_cpu_ip (s : State) (g : RegSet → RegSet) : (s.onMain g).cpu.ip = s.cpu.ip := rfl
@[simp] theorem State.onMain_cpu_iir (s : State) (g : RegSet → RegSet) : (s.onMain g).cpu.iir = s.cpu.iir := rfl
@[simp] theorem State.onMain_cpu_eir (s : State) (g : RegSet → RegSet) : (s.onMain g).cpu.eir = s.cpu.eir := rfl
@[simp] theorem State.onMain_cpu_su (s : State) (g : RegSet → RegSet) : (s.onMain g).cpu.su = s.cpu.su := rfl
@[simp] theorem State.onMain_cpu_altd (s : State) (g : RegSet → RegSet) : (s.onMain g).cpu.altd = s.cpu.altd := rfl
@[simp] theorem State.onMain_cpu_iospace (s : State) (g : RegSet → RegSet) : (s.onMain g).cpu.iospace = s.cpu.iospace := rfl
@[simp] theorem State.onMain_cpu_defer (s : State) (g : RegSet → RegSet) : (s.onMain g).cpu.defer = s.cpu.defer := rfl
@[simp] theorem State.onMain_cpu_start (s : State) (g : RegSet → RegSet) : (s.onMain g).cpu.start = s.cpu.start := rfl
@[simp] theorem State.onMain_cpu_lastIo (s : State) (g : RegSet → RegSet) : (s.onMain g).cpu.lastIo = s.cpu.lastIo := rfl
@[simp] theorem State.onAlt_cfg (s : State) (g : RegSet → RegSet) : (s.onAlt g).cfg = s.cfg := rfl
@[simp] theorem State.onAlt_mem (s : State) (g : RegSet → RegSet) : (s.onAlt g).mem = s.mem := rfl
@[simp] theorem State.onAlt_dev (s : State) (g : RegSet → RegSet) : (s.onAlt g).dev = s.dev := rfl
@[simp] theorem State.onAlt_inbox (s : State) (g : RegSet → RegSet) : (s.onAlt g).inbox = s.inbox := rfl
@[simp] theorem State.onAlt_writesLeft (s : State) (g : RegSet → RegSet) : (s.onAlt g).writesLeft = s.writesLeft := rfl
@[simp] theorem State.onAlt_cpu_main (s : State) (g : RegSet → RegSet) : (s.onAlt g).cpu.main = s.cpu.main := rfl
@[simp] theorem State.onAlt_cpu_alt (s : State) (g : RegSet → RegSet) : (s.onAlt g).cpu.alt = g s.cpu.alt := rfl
@[simp] theorem State.onAlt_cpu_ix (s : State) (g : RegSet → RegSet) : (s.onAlt g).cpu.ix = s.cpu.ix := rfl
@[simp] theorem State.onAlt_cpu_iy (s : State) (g : RegSet → RegSet) : (s.onAlt g).cpu.iy = s.cpu.iy := rfl
@[simp] theorem State.onAlt_cpu_sp (s : State) (g : RegSet → RegSet) : (s.onAlt g).cpu.sp = s.cpu.sp := rfl
@[simp] theorem State.onAlt_cpu_pc (s : State) (g : RegSet → RegSet) : (s.onAlt g).cpu.pc = s.cpu.pc := rfl
@[simp] theorem State.onAlt_cpu_xpc (s : State) (g : RegSet → RegSet) : (s.onAlt g).cpu.xpc = s.cpu.xpc := rfl
@[simp] theorem State.onAlt_cpu_ip (s : State) (g : RegSet → RegSet) : (s.onAlt g).cpu.ip = s.cpu.ip := rfl
@[simp] theorem State.onAlt_cpu_iir (s : State) (g : RegSet → RegSet) : (s.onAlt g).cpu.iir = s.cpu.iir := rfl
@[simp] theorem State.onAlt_cpu_eir (s : State) (g : RegSet → RegSet) : (s.onAlt g).cpu.eir = s.cpu.eir := rfl
@[simp] theorem State.onAlt_cpu_su (s : State) (g : RegSet → RegSet) : (s.onAlt g).cpu.su = s.cpu.su := rfl
@[simp] theorem State.onAlt_cpu_altd (s : State) (g : RegSet → RegSet) : (s.onAlt g).cpu.altd = s.cpu.altd := rfl
@[simp] theorem State.onAlt_cpu_iospace (s : State) (g : RegSet → RegSet) : (s.onAlt g).cpu.iospace = s.cpu.iospace := rfl
@[simp] theorem State.onAlt_cpu_defer (s : State) (g : RegSet → RegSet) : (s.onAlt g).cpu.defer = s.cpu.defer := rfl
@[simp] theorem State.onAlt_cpu_start (s : State) (g : RegSet → RegSet) : (s.onAlt g).cpu.start = s.cpu.start := rfl
@[simp] theorem State.onAlt_cpu_lastIo (s : State) (g : RegSet → RegSet) : (s.onAlt g).cpu.lastIo = s.cpu.lastIo := rfl
@[simp] theorem State.setIx_cfg (s : State) (w : Word) : (s.setIx w).cfg = s.cfg := rfl
@[simp] theorem State.setIx_mem (s : State) (w : Word) : (s.setIx w).mem = s.mem := rfl
@[simp] theorem State.setIx_dev (s : State) (w : Word) : (s.setIx w).dev = s.dev := rfl
@[simp] theorem State.setIx_inbox (s : State) (w : Word) : (s.setIx w).inbox = s.inbox := rfl
@[simp] theorem State.setIx_writesLeft (s : State) (w : Word) : (s.setIx w).writesLeft = s.writesLeft := rfl
@[simp] theorem State.setIx_cpu_main (s : State) (w : Word) : (s.setIx w).cpu.main = s.cpu.main := rfl
@[simp] theorem State.setIx_cpu_alt (s : State) (w : Word) : (s.setIx w).cpu.alt = s.cpu.alt := rfl
@[simp] theorem State.setIx_cpu_ix (s : State) (w : Word) : (s.setIx w).cpu.ix = w := rfl
@[simp] theorem State.setIx_cpu_iy (s : State) (w : Word) : (s.setIx w).cpu.iy = s.cpu.iy := rfl
@[simp] theorem State.setIx_cpu_sp (s : State) (w : Word) : (s.setIx w).cpu.sp = s.cpu.sp := rfl
@[simp] theorem State.setIx_cpu_pc (s : State) (w : Word) : (s.setIx w).cpu.pc = s.cpu.pc := rfl
@[simp] theorem State.setIx_cpu_xpc (s : State) (w : Word) : (s.setIx w).cpu.xpc = s.cpu.xpc := rfl
@[simp] theorem State.setIx_cpu_ip (s : State) (w : Word) : (s.setIx w).cpu.ip = s.cpu.ip := rfl
@[simp] theorem State.setIx_cpu_iir (s : State) (w : Word) : (s.setIx w).cpu.iir = s.cpu.iir := rfl
@[simp] theorem State.setIx_cpu_eir (s : State) (w : Word) : (s.setIx w).cpu.eir = s.cpu.eir := rfl
@[simp] theorem State.setIx_cpu_su (s : State) (w : Word) : (s.setIx w).cpu.su = s.cpu.su := rfl
@[simp] theorem State.setIx_cpu_altd (s : State) (w : Word) : (s.setIx w).cpu.altd = s.cpu.altd := rfl
@[simp] theorem State.setIx_cpu_iospace (s : State) (w : Word) : (s.setIx w).cpu.iospace = s.cpu.iospace := rfl
@[simp] theorem State.setIx_cpu_defer (s : State) (w : Word) : (s.setIx w).cpu.defer = s.cpu.defer := rfl
@[simp] theorem State.setIx_cpu_start (s : State) (w : Word) : (s.setIx w).cpu.start = s.cpu.start := rfl
@[simp] theorem State.setIx_cpu_lastIo (s : State) (w : Word) : (s.setIx w).cpu.lastIo = s.cpu.lastIo := rfl
@[simp] theorem State.setIy_cfg (s : State) (w : Word) : (s.setIy w).cfg = s.cfg := rfl
@[simp] theorem State.setIy_mem (s : State) (w : Word) : (s.setIy w).mem = s.mem := rfl
@[simp] theorem State.setIy_dev (s : State) (w : Word) : (s.setIy w).dev = s.dev := rfl
@[simp] theorem State.setIy_inbox (s : State) (w : Word) : (s.setIy w).inbox = s.inbox := rfl
@[simp] theorem State.setIy_writesLeft (s : State) (w : Word) : (s.setIy w).writesLeft = s.writesLeft := rfl
@[simp] theorem State.setIy_cpu_main (s : State) (w : Word) : (s.setIy w).cpu.main = s.cpu.main := rfl
@[simp] theorem State.setIy_cpu_alt (s : State) (w : Word) : (s.setIy w).cpu.alt = s.cpu.alt := rfl
@[simp] theorem State.setIy_cpu_ix (s : State) (w : Word) : (s.setIy w).cpu.ix = s.cpu.ix := rfl
@[simp] theorem State.setIy_cpu_iy (s : State) (w : Word) : (s.setIy w).cpu.iy = w := rfl
@[simp] theorem State.setIy_cpu_sp (s : State) (w : Word) : (s.setIy w).cpu.sp = s.cpu.sp := rfl
@[simp] theorem State.setIy_cpu_pc (s : State) (w : Word) : (s.setIy w).cpu.pc = s.cpu.pc := rfl
@[simp] theorem State.setIy_cpu_xpc (s : State) (w : Word) : (s.setIy w).cpu.xpc = s.cpu.xpc := rfl
@[simp] theorem State.setIy_cpu_ip (s : State) (w : Word) : (s.setIy w).cpu.ip = s.cpu.ip := rfl
@[simp] theorem State.setIy_cpu_iir (s : State) (w : Word) : (s.setIy w).cpu.iir = s.cpu.iir := rfl
@[simp] theorem State.setIy_cpu_eir (s : State) (w : Word) : (s.setIy w).cpu.eir = s.cpu.eir := rfl
@[simp] theorem State.setIy_cpu_su (s : State) (w : Word) : (s.setIy w).cpu.su = s.cpu.su := rfl
@[simp] theorem State.setIy_cpu_altd (s : State) (w : Word) : (s.setIy w).cpu.altd = s.cpu.altd := rfl
@[simp] theorem State.setIy_cpu_iospace (s : State) (w : Word) : (s.setIy w).cpu.iospace = s.cpu.iospace := rfl
@[simp] theorem State.setIy_cpu_defer (s : State) (w : Word) : (s.setIy w).cpu.defer = s.cpu.defer := rfl
@[simp] theorem State.setIy_cpu_start (s : State) (w : Word) : (s.setIy w).cpu.start = s.cpu.start := rfl
@[simp] theorem State.setIy_cpu_lastIo (s : State) (w : Word) : (s.setIy w).cpu.lastIo = s.cpu.lastIo := rfl
@[simp] theorem State.setSp_cfg (s : State) (w : Word) : (s.setSp w).cfg = s.cfg := rfl
@[simp] theorem State.setSp_mem (s : State) (w : Word) : (s.setSp w).mem = s.mem := rfl
@[simp] theorem State.setSp_dev (s : State) (w : Word) : (s.setSp w).dev = s.dev := rfl
@[simp] theorem State.setSp_inbox (s : State) (w : Word) : (s.setSp w).inbox = s.inbox := rfl
@[simp] theorem State.setSp_writesLeft (s : State) (w : Word) : (s.setSp w).writesLeft = s.writesLeft := rfl
@[simp] theorem State.setSp_cpu_main (s : State) (w : Word) : (s.setSp w).cpu.main = s.cpu.main := rfl
@[simp] theorem State.setSp_cpu_alt (s : State) (w : Word) : (s.setSp w).cpu.alt = s.cpu.alt := rfl
@[simp] theorem State.setSp_cpu_ix (s : State) (w : Word) : (s.setSp w).cpu.ix = s.cpu.ix := rfl
@[simp] theorem State.setSp_cpu_iy (s : State) (w : Word) : (s.setSp w).cpu.iy = s.cpu.iy := rfl
@[simp] theorem State.setSp_cpu_sp (s : State) (w : Word) : (s.setSp w).cpu.sp = w := rfl
@[simp] theorem State.setSp_cpu_pc (s : State) (w : Word) : (s.setSp w).cpu.pc = s.cpu.pc := rfl
@[simp] theorem State.setSp_cpu_xpc (s : State) (w : Word) : (s.setSp w).cpu.xpc = s.cpu.xpc := rfl
@[simp] theorem State.setSp_cpu_ip (s : State) (w : Word) : (s.setSp w).cpu.ip = s.cpu.ip := rfl
@[simp] theorem State.setSp_cpu_iir (s : State) (w : Word) : (s.setSp w).cpu.iir = s.cpu.iir := rfl
@[simp] theorem State.setSp_cpu_eir (s : State) (w : Word) : (s.setSp w).cpu.eir = s.cpu.eir := rfl
@[simp] theorem State.setSp_cpu_su (s : State) (w : Word) : (s.setSp w).cpu.su = s.cpu.su := rfl
@[simp] theorem State.setSp_cpu_altd (s : State) (w : Word) : (s.setSp w).cpu.altd = s.cpu.altd := rfl
@[simp] theorem State.setSp_cpu_iospace (s : State) (w : Word) : (s.setSp w).cpu.iospace = s.cpu.iospace := rfl
@[simp] theorem State.setSp_cpu_defer (s : State) (w : Word) : (s.setSp w).cpu.defer = s.cpu.defer := rfl
@[simp] theorem State.setSp_cpu_start (s : State) (w : Word) : (s.setSp w).cpu.start = s.cpu.start := rfl
@[simp] theorem State.setSp_cpu_lastIo (s : State) (w : Word) : (s.setSp w).cpu.lastIo = s.cpu.lastIo := rfl
@[simp] theorem State.setPc_cfg (s : State) (w : Word) : (s.setPc w).cfg = s.cfg := rfl
@[simp] theorem State.setPc_mem (s : State) (w : Word) : (s.setPc w).mem = s.mem := rfl
@[simp] theorem State.setPc_dev (s : State) (w : Word) : (s.setPc w).dev = s.dev := rfl
@[simp] theorem State.setPc_inbox (s : State) (w : Word) : (s.setPc w).inbox = s.inbox := rfl
@[simp] theorem State.setPc_writesLeft (s : State) (w : Word) : (s.setPc w).writesLeft = s.writesLeft := rfl
@[simp] theorem State.setPc_cpu_main (s : State) (w : Word) : (s.setPc w).cpu.main = s.cpu.main := rfl
@[simp] theorem State.setPc_cpu_alt (s : State) (w : Word) : (s.setPc w).cpu.alt = s.cpu.alt := rfl
@[simp] theorem State.setPc_cpu_ix (s : State) (w : Word) : (s.setPc w).cpu.ix = s.cpu.ix := rfl
@[simp] theorem State.setPc_cpu_iy (s : State) (w : Word) : (s.setPc w).cpu.iy = s.cpu.iy := rfl
@[simp] theorem State.setPc_cpu_sp (s : State) (w : Word) : (s.setPc w).cpu.sp = s.cpu.sp := rfl
@[simp] theorem State.setPc_cpu_pc (s : State) (w : Word) : (s.setPc w).cpu.pc = w := rfl
@[simp] theorem State.setPc_cpu_xpc (s : State) (w : Word) : (s.setPc w).cpu.xpc = s.cpu.xpc := rfl
@[simp] theorem State.setPc_cpu_ip (s : State) (w : Word) : (s.setPc w).cpu.ip = s.cpu.ip := rfl
@[simp] theorem State.setPc_cpu_iir (s : State) (w : Word) : (s.setPc w).cpu.iir = s.cpu.iir := rfl
@[simp] theorem State.setPc_cpu_eir (s : State) (w : Word) : (s.setPc w).cpu.eir = s.cpu.eir := rfl
@[simp] theorem State.setPc_cpu_su (s : State) (w : Word) : (s.setPc w).cpu.su = s.cpu.su := rfl
@[simp] theorem State.setPc_cpu_altd (s : State) (w : Word) : (s.setPc w).cpu.altd = s.cpu.altd := rfl
@[simp] theorem State.setPc_cpu_iospace (s : State) (w : Word) : (s.setPc w).cpu.iospace = s.cpu.iospace := rfl
@[simp] theorem State.setPc_cpu_defer (s : State) (w : Word) : (s.setPc w).cpu.defer = s.cpu.defer := rfl
@[simp] theorem State.setPc_cpu_start (s : State) (w : Word) : (s.setPc w).cpu.start = s.cpu.start := rfl
@[simp] theorem State.setPc_cpu_lastIo (s : State) (w : Word) : (s.setPc w).cpu.lastIo = s.cpu.lastIo := rfl
@[simp] theorem State.setXpc_cfg (s : State) (v : Byte) : (s.setXpc v).cfg = s.cfg := rfl
@[simp] theorem State.setXpc_mem (s : State) (v : Byte) : (s.setXpc v).mem = s.mem := rfl
@[simp] theorem State.setXpc_dev (s : State) (v : Byte) : (s.setXpc v).dev = s.dev := rfl
@[simp] theorem State.setXpc_inbox (s : State) (v : Byte) : (s.setXpc v).inbox = s.inbox := rfl
@[simp] theorem State.setXpc_writesLeft (s : State) (v : Byte) : (s.setXpc v).writesLeft = s.writesLeft := rfl
@[simp] theorem State.setXpc_cpu_main (s : State) (v : Byte) : (s.setXpc v).cpu.main = s.cpu.main := rfl
@[simp] theorem State.setXpc_cpu_alt (s : State) (v : Byte) : (s.setXpc v).cpu.alt = s.cpu.alt := rfl
@[simp] theorem State.setXpc_cpu_ix (s : State) (v : Byte) : (s.setXpc v).cpu.ix = s.cpu.ix := rfl
@[simp] theorem State.setXpc_cpu_iy (s : State) (v : Byte) : (s.setXpc v).cpu.iy = s.cpu.iy := rfl
@[simp] theorem State.setXpc_cpu_sp (s : State) (v : Byte) : (s.setXpc v).cpu.sp = s.cpu.sp := rfl
@[simp] theorem State.setXpc_cpu_pc (s : State) (v : Byte) : (s.setXpc v).cpu.pc = s.cpu.pc := rfl
@[simp] theorem State.setXpc_cpu_xpc (s : State) (v : Byte) : (s.setXpc v).cpu.xpc = v := rfl
@[simp] theorem State.setXpc_cpu_ip (s : State) (v : Byte) : (s.setXpc v).cpu.ip = s.cpu.ip := rfl
@[simp] theorem State.setXpc_cpu_iir (s : State) (v : Byte) : (s.setXpc v).cpu.iir = s.cpu.iir := rfl
@[simp] theorem State.setXpc_cpu_eir (s : State) (v : Byte) : (s.setXpc v).cpu.eir = s.cpu.eir := rfl
@[simp] theorem State.setXpc_cpu_su (s : State) (v : Byte) : (s.setXpc v).cpu.su = s.cpu.su := rfl
@[simp] theorem State.setXpc_cpu_altd (s : State) (v : Byte) : (s.setXpc v).cpu.altd = s.cpu.altd := rfl
@[simp] theorem State.setXpc_cpu_iospace (s : State) (v : Byte) : (s.setXpc v).cpu.iospace = s.cpu.iospace := rfl
@[simp] theorem State.setXpc_cpu_defer (s : State) (v : Byte) : (s.setXpc v).cpu.defer = s.cpu.defer := rfl
@[simp] theorem State.setXpc_cpu_start (s : State) (v : Byte) : (s.setXpc v).cpu.start = s.cpu.start := rfl
@[simp] theorem State.setXpc_cpu_lastIo (s : State) (v : Byte) : (s.setXpc v).cpu.lastIo = s.cpu.lastIo := rfl
@[simp] theorem State.setIp_cfg (s : State) (v : Byte) : (s.setIp v).cfg = s.cfg := rfl
@[simp] theorem State.setIp_mem (s : State) (v : Byte) : (s.setIp v).mem = s.mem := rfl
@[simp] theorem State.setIp_dev (s : State) (v : Byte) : (s.setIp v).dev = s.dev := rfl
@[simp] theorem State.setIp_inbox (s : State) (v : Byte) : (s.setIp v).inbox = s.inbox := rfl
@[simp] theorem State.setIp_writesLeft (s : State) (v : Byte) : (s.setIp v).writesLeft = s.writesLeft := rfl
@[simp] theorem State.setIp_cpu_main (s : State) (v : Byte) : (s.setIp v).cpu.main = s.cpu.main := rfl
@[simp] theorem State.setIp_cpu_alt (s : State) (v : Byte) : (s.setIp v).cpu.alt = s.cpu.alt := rfl
@[simp] theorem State.setIp_cpu_ix (s : State) (v : Byte) : (s.setIp v).cpu.ix = s.cpu.ix := rfl
@[simp] theorem State.setIp_cpu_iy (s : State) (v : Byte) : (s.setIp v).cpu.iy = s.cpu.iy := rfl
@[simp] theorem State.setIp_cpu_sp (s : State) (v : Byte) : (s.setIp v).cpu.sp = s.cpu.sp := rfl
@[simp] theorem State.setIp_cpu_pc (s : State) (v : Byte) : (s.setIp v).cpu.pc = s.cpu.pc := rfl
@[simp] theorem State.setIp_cpu_xpc (s : State) (v : Byte) : (s.setIp v).cpu.xpc = s.cpu.xpc := rfl
@[simp] theorem State.setIp_cpu_ip (s : State) (v : Byte) : (s.setIp v).cpu.ip = v := rfl
@[simp] theorem State.setIp_cpu_iir (s : State) (v : Byte) : (s.setIp v).cpu.iir = s.cpu.iir := rfl
@[simp] theorem State.setIp_cpu_eir (s : State) (v : Byte) : (s.setIp v).cpu.eir = s.cpu.eir := rfl
@[simp] theorem State.setIp_cpu_su (s : State) (v : Byte) : (s.setIp v).cpu.su = s.cpu.su := rfl
@[simp] theorem State.setIp_cpu_altd (s : State) (v : Byte) : (s.setIp v).cpu.altd = s.cpu.altd := rfl
@[simp] theorem State.setIp_cpu_iospace (s : State) (v : Byte) : (s.setIp v).cpu.iospace = s.cpu.iospace := rfl
@[simp] theorem State.setIp_cpu_defer (s : State) (v : Byte) : (s.setIp v).cpu.defer = s.cpu.defer := rfl
@[simp] theorem State.setIp_cpu_start (s : State) (v : Byte) : (s.setIp v).cpu.start = s.cpu.start := rfl
@[simp] theorem State.setIp_cpu_lastIo (s : State) (v : Byte) : (s.setIp v).cpu.lastIo = s.cpu.lastIo := rfl
@[simp] theorem State.setSu_cfg (s : State) (v : Byte) : (s.setSu v).cfg = s.cfg := rfl
@[simp] theorem State.setSu_mem (s : State) (v : Byte) : (s.setSu v).mem = s.mem := rfl
@[simp] theorem State.setSu_dev (s : State) (v : Byte) : (s.setSu v).dev = s.dev := rfl
@[simp] theorem State.setSu_inbox (s : State) (v : Byte) : (s.setSu v).inbox = s.inbox := rfl
@[simp] theorem State.setSu_writesLeft (s : State) (v : Byte) : (s.setSu v).writesLeft = s.writesLeft := rfl
@[simp] theorem State.setSu_cpu_main (s : State) (v : Byte) : (s.setSu v).cpu.main = s.cpu.main := rfl
@[simp] theorem State.setSu_cpu_alt (s : State) (v : Byte) : (s.setSu v).cpu.alt = s.cpu.alt := rfl
@[simp] theorem State.setSu_cpu_ix (s : State) (v : Byte) : (s.setSu v).cpu.ix = s.cpu.ix := rfl
@[simp] theorem State.setSu_cpu_iy (s : State) (v : Byte) : (s.setSu v).cpu.iy = s.cpu.iy := rfl
@[simp] theorem State.setSu_cpu_sp (s : State) (v : Byte) : (s.setSu v).cpu.sp = s.cpu.sp := rfl
@[simp] theorem State.setSu_cpu_pc (s : State) (v : Byte) : (s.setSu v).cpu.pc = s.cpu.pc := rfl
@[simp] theorem State.setSu_cpu_xpc (s : State) (v : Byte) : (s.setSu v).cpu.xpc = s.cpu.xpc := rfl
@[simp] theorem State.setSu_cpu_ip (s : State) (v : Byte) : (s.setSu v).cpu.ip = s.cpu.ip := rfl
@[simp] theorem State.setSu_cpu_iir (s : State) (v : Byte) : (s.setSu v).cpu.iir = s.cpu.iir := rfl
@[simp] theorem State.setSu_cpu_eir (s : State) (v : Byte) : (s.setSu v).cpu.eir = s.cpu.eir := rfl
@[simp] theorem State.setSu_cpu_su (s : State) (v : Byte) : (s.setSu v).cpu.su = v := rfl
@[simp] theorem State.setSu_cpu_altd (s : State) (v : Byte) : (s.setSu v).cpu.altd = s.cpu.altd := rfl
@[simp] theorem State.setSu_cpu_iospace (s : State) (v : Byte) : (s.setSu v).cpu.iospace = s.cpu.iospace := rfl
@[simp] theorem State.setSu_cpu_defer (s : State) (v : Byte) : (s.setSu v).cpu.defer = s.cpu.defer := rfl
@[simp] theorem State.setSu_cpu_start (s : State) (v : Byte) : (s.setSu v).cpu.start = s.cpu.start := rfl
@[simp] theorem State.setSu_cpu_lastIo (s : State) (v : Byte) : (s.setSu v).cpu.lastIo = s.cpu.lastIo := rfl

/-! The destination an ALTD prefix redirects -/
@[simp] theorem State.onDst_cfg (s : State) (g : RegSet → RegSet) : (s.onDst g).cfg = s.cfg := by cases h : s.cpu.altd <;> simp [State.onDst, h]
@[simp] theorem State.onDst_mem (s : State) (g : RegSet → RegSet) : (s.onDst g).mem = s.mem := by cases h : s.cpu.altd <;> simp [State.onDst, h]
@[simp] theorem State.onDst_dev (s : State) (g : RegSet → RegSet) : (s.onDst g).dev = s.dev := by cases h : s.cpu.altd <;> simp [State.onDst, h]
@[simp] theorem State.onDst_inbox (s : State) (g : RegSet → RegSet) : (s.onDst g).inbox = s.inbox := by cases h : s.cpu.altd <;> simp [State.onDst, h]
@[simp] theorem State.onDst_writesLeft (s : State) (g : RegSet → RegSet) : (s.onDst g).writesLeft = s.writesLeft := by cases h : s.cpu.altd <;> simp [State.onDst, h]
@[simp] theorem State.onDst_cpu_main (s : State) (g : RegSet → RegSet) : (s.onDst g).cpu.main = if s.cpu.altd then s.cpu.main else g s.cpu.main := by cases h : s.cpu.altd <;> simp [State.onDst, h]
@[simp] theorem State.onDst_cpu_alt (s : State) (g : RegSet → RegSet) : (s.onDst g).cpu.alt = if s.cpu.altd then g s.cpu.alt else s.cpu.alt := by cases h : s.cpu.altd <;> simp [State.onDst, h]
@[simp] theorem State.onDst_cpu_ix (s : State) (g : RegSet → RegSet) : (s.onDst g).cpu.ix = s.cpu.ix := by cases h : s.cpu.altd <;> simp [State.onDst, h]
@[simp] theorem State.onDst_cpu_iy (s : State) (g : RegSet → RegSet) : (s.onDst g).cpu.iy = s.cpu.iy := by cases h : s.cpu.altd <;> simp [State.onDst, h]
@[simp] theorem State.onDst_cpu_sp (s : State) (g : RegSet → RegSet) : (s.onDst g).cpu.sp = s.cpu.sp := by cases h : s.cpu.altd <;> simp [State.onDst, h]
@[simp] theorem State.onDst_cpu_pc (s : State) (g : RegSet → RegSet) : (s.onDst g).cpu.pc = s.cpu.pc := by cases h : s.cpu.altd <;> simp [State.onDst, h]
@[simp] theorem State.onDst_cpu_xpc (s : State) (g : RegSet → RegSet) : (s.onDst g).cpu.xpc = s.cpu.xpc := by cases h : s.cpu.altd <;> simp [State.onDst, h]
@[simp] theorem State.onDst_cpu_ip (s : State) (g : RegSet → RegSet) : (s.onDst g).cpu.ip = s.cpu.ip := by cases h : s.cpu.altd <;> simp [State.onDst, h]
@[simp] theorem State.onDst_cpu_iir (s : State) (g : RegSet → RegSet) : (s.onDst g).cpu.iir = s.cpu.iir := by cases h : s.cpu.altd <;> simp [State.onDst, h]
@[simp] theorem State.onDst_cpu_eir (s : State) (g : RegSet → RegSet) : (s.onDst g).cpu.eir = s.cpu.eir := by cases h : s.cpu.altd <;> simp [State.onDst, h]
@[simp] theorem State.onDst_cpu_su (s : State) (g : RegSet → RegSet) : (s.onDst g).cpu.su = s.cpu.su := by cases h : s.cpu.altd <;> simp [State.onDst, h]
@[simp] theorem State.onDst_cpu_altd (s : State) (g : RegSet → RegSet) : (s.onDst g).cpu.altd = s.cpu.altd := by cases h : s.cpu.altd <;> simp [State.onDst, h]
@[simp] theorem State.onDst_cpu_iospace (s : State) (g : RegSet → RegSet) : (s.onDst g).cpu.iospace = s.cpu.iospace := by cases h : s.cpu.altd <;> simp [State.onDst, h]
@[simp] theorem State.onDst_cpu_defer (s : State) (g : RegSet → RegSet) : (s.onDst g).cpu.defer = s.cpu.defer := by cases h : s.cpu.altd <;> simp [State.onDst, h]
@[simp] theorem State.onDst_cpu_start (s : State) (g : RegSet → RegSet) : (s.onDst g).cpu.start = s.cpu.start := by cases h : s.cpu.altd <;> simp [State.onDst, h]
@[simp] theorem State.onDst_cpu_lastIo (s : State) (g : RegSet → RegSet) : (s.onDst g).cpu.lastIo = s.cpu.lastIo := by cases h : s.cpu.altd <;> simp [State.onDst, h]
theorem State.setDst8_eq (s : State) (r : R8) (v : Byte) : s.setDst8 r v = s.onDst fun x => x.setR8 r v := rfl
theorem State.setDstHl_eq (s : State) (w : Word) : s.setDstHl w = s.onDst fun x => x.setHl w := rfl
theorem State.setDstDe_eq (s : State) (w : Word) : s.setDstDe w = s.onDst fun x => x.setDe w := rfl
theorem State.setDstZz_eq (s : State) (zz : ZZ) (w : Word) : s.setDstZz zz w = s.onDst fun x => x.setZz zz w := rfl
theorem State.onFlags_eq (s : State) (g : Byte → Byte) : s.onFlags g = s.onDst fun x => { x with f := g x.f } := rfl
@[simp] theorem State.setDstSs_cfg (s : State) (ss : SS) (w : Word) : (s.setDstSs ss w).cfg = s.cfg := by cases ss <;> simp [State.setDstSs, State.setDstDe, State.setDstHl]
@[simp] theorem State.setDstSs_mem (s : State) (ss : SS) (w : Word) : (s.setDstSs ss w).mem = s.mem := by cases ss <;> simp [State.setDstSs, State.setDstDe, State.setDstHl]
@[simp] theorem State.setDstSs_dev (s : State) (ss : SS) (w : Word) : (s.setDstSs ss w).dev = s.dev := by cases ss <;> simp [State.setDstSs, State.setDstDe, State.setDstHl]
@[simp] theorem State.setDstSs_inbox (s : State) (ss : SS) (w : Word) : (s.setDstSs ss w).inbox = s.inbox := by cases ss <;> simp [State.setDstSs, State.setDstDe, State.setDstHl]
@[simp] theorem State.setDstSs_writesLeft (s : State) (ss : SS) (w : Word) : (s.setDstSs ss w).writesLeft = s.writesLeft := by cases ss <;> simp [State.setDstSs, State.setDstDe, State.setDstHl]
@[simp] theorem State.setDst8_cfg (s : State) (r : R8) (v : Byte) : (s.setDst8 r v).cfg = s.cfg := by simp [State.setDst8]
@[simp] theorem State.setDst8_mem (s : State) (r : R8) (v : Byte) : (s.setDst8 r v).mem = s.mem := by simp [State.setDst8]
@[simp] theorem State.setDst8_dev (s : State) (r : R8) (v : Byte) : (s.setDst8 r v).dev = s.dev := by simp [State.setDst8]
@[simp] theorem State.setDst8_inbox (s : State) (r : R8) (v : Byte) : (s.setDst8 r v).inbox = s.inbox := by simp [State.setDst8]
@[simp] theorem State.setDst8_writesLeft (s : State) (r : R8) (v : Byte) : (s.setDst8 r v).writesLeft = s.writesLeft := by simp [State.setDst8]
@[simp] theorem State.setDstHl_cfg (s : State) (w : Word) : (s.setDstHl w).cfg = s.cfg := by simp [State.setDstHl]
@[simp] theorem State.setDstHl_mem (s : State) (w : Word) : (s.setDstHl w).mem = s.mem := by simp [State.setDstHl]
@[simp] theorem State.setDstHl_dev (s : State) (w : Word) : (s.setDstHl w).dev = s.dev := by simp [State.setDstHl]
@[simp] theorem State.setDstHl_inbox (s : State) (w : Word) : (s.setDstHl w).inbox = s.inbox := by simp [State.setDstHl]
@[simp] theorem State.setDstHl_writesLeft (s : State) (w : Word) : (s.setDstHl w).writesLeft = s.writesLeft := by simp [State.setDstHl]
@[simp] theorem State.setDstDe_cfg (s : State) (w : Word) : (s.setDstDe w).cfg = s.cfg := by simp [State.setDstDe]
@[simp] theorem State.setDstDe_mem (s : State) (w : Word) : (s.setDstDe w).mem = s.mem := by simp [State.setDstDe]
@[simp] theorem State.setDstDe_dev (s : State) (w : Word) : (s.setDstDe w).dev = s.dev := by simp [State.setDstDe]
@[simp] theorem State.setDstDe_inbox (s : State) (w : Word) : (s.setDstDe w).inbox = s.inbox := by simp [State.setDstDe]
@[simp] theorem State.setDstDe_writesLeft (s : State) (w : Word) : (s.setDstDe w).writesLeft = s.writesLeft := by simp [State.setDstDe]
@[simp] theorem State.setDstZz_cfg (s : State) (zz : ZZ) (w : Word) : (s.setDstZz zz w).cfg = s.cfg := by simp [State.setDstZz]
@[simp] theorem State.setDstZz_mem (s : State) (zz : ZZ) (w : Word) : (s.setDstZz zz w).mem = s.mem := by simp [State.setDstZz]
@[simp] theorem State.setDstZz_dev (s : State) (zz : ZZ) (w : Word) : (s.setDstZz zz w).dev = s.dev := by simp [State.setDstZz]
@[simp] theorem State.setDstZz_inbox (s : State) (zz : ZZ) (w : Word) : (s.setDstZz zz w).inbox = s.inbox := by simp [State.setDstZz]
@[simp] theorem State.setDstZz_writesLeft (s : State) (zz : ZZ) (w : Word) : (s.setDstZz zz w).writesLeft = s.writesLeft := by simp [State.setDstZz]
@[simp] theorem State.onFlags_cfg (s : State) (g : Byte → Byte) : (s.onFlags g).cfg = s.cfg := by simp [State.onFlags]
@[simp] theorem State.onFlags_mem (s : State) (g : Byte → Byte) : (s.onFlags g).mem = s.mem := by simp [State.onFlags]
@[simp] theorem State.onFlags_dev (s : State) (g : Byte → Byte) : (s.onFlags g).dev = s.dev := by simp [State.onFlags]
@[simp] theorem State.onFlags_inbox (s : State) (g : Byte → Byte) : (s.onFlags g).inbox = s.inbox := by simp [State.onFlags]
@[simp] theorem State.onFlags_writesLeft (s : State) (g : Byte → Byte) : (s.onFlags g).writesLeft = s.writesLeft := by simp [State.onFlags]

/-! The completion of an instruction -/
@[simp] theorem State.retired_cfg (s : State) : (s.retired).cfg = s.cfg := rfl
@[simp] theorem State.retired_mem (s : State) : (s.retired).mem = s.mem := rfl
@[simp] theorem State.retired_dev (s : State) : (s.retired).dev = s.dev := rfl
@[simp] theorem State.retired_inbox (s : State) : (s.retired).inbox = s.inbox := rfl
@[simp] theorem State.retired_writesLeft (s : State) : (s.retired).writesLeft = s.writesLeft := rfl
@[simp] theorem State.retired_cpu_main (s : State) : (s.retired).cpu.main = s.cpu.main := rfl
@[simp] theorem State.retired_cpu_alt (s : State) : (s.retired).cpu.alt = s.cpu.alt := rfl
@[simp] theorem State.retired_cpu_ix (s : State) : (s.retired).cpu.ix = s.cpu.ix := rfl
@[simp] theorem State.retired_cpu_iy (s : State) : (s.retired).cpu.iy = s.cpu.iy := rfl
@[simp] theorem State.retired_cpu_sp (s : State) : (s.retired).cpu.sp = s.cpu.sp := rfl
@[simp] theorem State.retired_cpu_pc (s : State) : (s.retired).cpu.pc = s.cpu.pc := rfl
@[simp] theorem State.retired_cpu_xpc (s : State) : (s.retired).cpu.xpc = s.cpu.xpc := rfl
@[simp] theorem State.retired_cpu_ip (s : State) : (s.retired).cpu.ip = s.cpu.ip := rfl
@[simp] theorem State.retired_cpu_iir (s : State) : (s.retired).cpu.iir = s.cpu.iir := rfl
@[simp] theorem State.retired_cpu_eir (s : State) : (s.retired).cpu.eir = s.cpu.eir := rfl
@[simp] theorem State.retired_cpu_su (s : State) : (s.retired).cpu.su = s.cpu.su := rfl
@[simp] theorem State.retired_cpu_altd (s : State) : (s.retired).cpu.altd = false := rfl
@[simp] theorem State.retired_cpu_iospace (s : State) : (s.retired).cpu.iospace = .memory := rfl
@[simp] theorem State.retired_cpu_defer (s : State) : (s.retired).cpu.defer = false := rfl
@[simp] theorem State.retired_cpu_start (s : State) : (s.retired).cpu.start = s.cpu.start := rfl
@[simp] theorem State.retired_cpu_lastIo (s : State) : (s.retired).cpu.lastIo = decide (s.cpu.iospace ≠ .memory) := rfl
@[simp] theorem State.retiredHeld_cfg (s : State) : (s.retiredHeld).cfg = s.cfg := rfl
@[simp] theorem State.retiredHeld_mem (s : State) : (s.retiredHeld).mem = s.mem := rfl
@[simp] theorem State.retiredHeld_dev (s : State) : (s.retiredHeld).dev = s.dev := rfl
@[simp] theorem State.retiredHeld_inbox (s : State) : (s.retiredHeld).inbox = s.inbox := rfl
@[simp] theorem State.retiredHeld_writesLeft (s : State) : (s.retiredHeld).writesLeft = s.writesLeft := rfl
@[simp] theorem State.retiredHeld_cpu_main (s : State) : (s.retiredHeld).cpu.main = s.cpu.main := rfl
@[simp] theorem State.retiredHeld_cpu_alt (s : State) : (s.retiredHeld).cpu.alt = s.cpu.alt := rfl
@[simp] theorem State.retiredHeld_cpu_ix (s : State) : (s.retiredHeld).cpu.ix = s.cpu.ix := rfl
@[simp] theorem State.retiredHeld_cpu_iy (s : State) : (s.retiredHeld).cpu.iy = s.cpu.iy := rfl
@[simp] theorem State.retiredHeld_cpu_sp (s : State) : (s.retiredHeld).cpu.sp = s.cpu.sp := rfl
@[simp] theorem State.retiredHeld_cpu_pc (s : State) : (s.retiredHeld).cpu.pc = s.cpu.pc := rfl
@[simp] theorem State.retiredHeld_cpu_xpc (s : State) : (s.retiredHeld).cpu.xpc = s.cpu.xpc := rfl
@[simp] theorem State.retiredHeld_cpu_ip (s : State) : (s.retiredHeld).cpu.ip = s.cpu.ip := rfl
@[simp] theorem State.retiredHeld_cpu_iir (s : State) : (s.retiredHeld).cpu.iir = s.cpu.iir := rfl
@[simp] theorem State.retiredHeld_cpu_eir (s : State) : (s.retiredHeld).cpu.eir = s.cpu.eir := rfl
@[simp] theorem State.retiredHeld_cpu_su (s : State) : (s.retiredHeld).cpu.su = s.cpu.su := rfl
@[simp] theorem State.retiredHeld_cpu_altd (s : State) : (s.retiredHeld).cpu.altd = false := rfl
@[simp] theorem State.retiredHeld_cpu_iospace (s : State) : (s.retiredHeld).cpu.iospace = .memory := rfl
@[simp] theorem State.retiredHeld_cpu_defer (s : State) : (s.retiredHeld).cpu.defer = true := rfl
@[simp] theorem State.retiredHeld_cpu_start (s : State) : (s.retiredHeld).cpu.start = s.cpu.start := rfl
@[simp] theorem State.retiredHeld_cpu_lastIo (s : State) : (s.retiredHeld).cpu.lastIo = decide (s.cpu.iospace ≠ .memory) := rfl
@[simp] theorem Cpu.retire_main (c : Cpu) (p : Bool) : (c.retire p).main = c.main := rfl
@[simp] theorem Cpu.retire_alt (c : Cpu) (p : Bool) : (c.retire p).alt = c.alt := rfl
@[simp] theorem Cpu.retire_ix (c : Cpu) (p : Bool) : (c.retire p).ix = c.ix := rfl
@[simp] theorem Cpu.retire_iy (c : Cpu) (p : Bool) : (c.retire p).iy = c.iy := rfl
@[simp] theorem Cpu.retire_sp (c : Cpu) (p : Bool) : (c.retire p).sp = c.sp := rfl
@[simp] theorem Cpu.retire_pc (c : Cpu) (p : Bool) : (c.retire p).pc = c.pc := rfl
@[simp] theorem Cpu.retire_xpc (c : Cpu) (p : Bool) : (c.retire p).xpc = c.xpc := rfl
@[simp] theorem Cpu.retire_ip (c : Cpu) (p : Bool) : (c.retire p).ip = c.ip := rfl
@[simp] theorem Cpu.retire_iir (c : Cpu) (p : Bool) : (c.retire p).iir = c.iir := rfl
@[simp] theorem Cpu.retire_eir (c : Cpu) (p : Bool) : (c.retire p).eir = c.eir := rfl
@[simp] theorem Cpu.retire_su (c : Cpu) (p : Bool) : (c.retire p).su = c.su := rfl
@[simp] theorem Cpu.retire_altd (c : Cpu) (p : Bool) : (c.retire p).altd = false := rfl
@[simp] theorem Cpu.retire_iospace (c : Cpu) (p : Bool) : (c.retire p).iospace = .memory := rfl
@[simp] theorem Cpu.retire_defer (c : Cpu) (p : Bool) : (c.retire p).defer = p := rfl
@[simp] theorem Cpu.retire_start (c : Cpu) (p : Bool) : (c.retire p).start = c.start := rfl
@[simp] theorem Cpu.retire_lastIo (c : Cpu) (p : Bool) : (c.retire p).lastIo = decide (c.iospace ≠ .memory) := rfl

/-! The registers of a set -/

@[simp] theorem RegSet.setBc_a (x : RegSet) (w : Word) : (x.setBc w).a = x.a := rfl
@[simp] theorem RegSet.setBc_b (x : RegSet) (w : Word) : (x.setBc w).b = hiByte w := rfl
@[simp] theorem RegSet.setBc_c (x : RegSet) (w : Word) : (x.setBc w).c = loByte w := rfl
@[simp] theorem RegSet.setBc_d (x : RegSet) (w : Word) : (x.setBc w).d = x.d := rfl
@[simp] theorem RegSet.setBc_e (x : RegSet) (w : Word) : (x.setBc w).e = x.e := rfl
@[simp] theorem RegSet.setBc_f (x : RegSet) (w : Word) : (x.setBc w).f = x.f := rfl
@[simp] theorem RegSet.setBc_h (x : RegSet) (w : Word) : (x.setBc w).h = x.h := rfl
@[simp] theorem RegSet.setBc_l (x : RegSet) (w : Word) : (x.setBc w).l = x.l := rfl
@[simp] theorem RegSet.setDe_a (x : RegSet) (w : Word) : (x.setDe w).a = x.a := rfl
@[simp] theorem RegSet.setDe_b (x : RegSet) (w : Word) : (x.setDe w).b = x.b := rfl
@[simp] theorem RegSet.setDe_c (x : RegSet) (w : Word) : (x.setDe w).c = x.c := rfl
@[simp] theorem RegSet.setDe_d (x : RegSet) (w : Word) : (x.setDe w).d = hiByte w := rfl
@[simp] theorem RegSet.setDe_e (x : RegSet) (w : Word) : (x.setDe w).e = loByte w := rfl
@[simp] theorem RegSet.setDe_f (x : RegSet) (w : Word) : (x.setDe w).f = x.f := rfl
@[simp] theorem RegSet.setDe_h (x : RegSet) (w : Word) : (x.setDe w).h = x.h := rfl
@[simp] theorem RegSet.setDe_l (x : RegSet) (w : Word) : (x.setDe w).l = x.l := rfl
@[simp] theorem RegSet.setHl_a (x : RegSet) (w : Word) : (x.setHl w).a = x.a := rfl
@[simp] theorem RegSet.setHl_b (x : RegSet) (w : Word) : (x.setHl w).b = x.b := rfl
@[simp] theorem RegSet.setHl_c (x : RegSet) (w : Word) : (x.setHl w).c = x.c := rfl
@[simp] theorem RegSet.setHl_d (x : RegSet) (w : Word) : (x.setHl w).d = x.d := rfl
@[simp] theorem RegSet.setHl_e (x : RegSet) (w : Word) : (x.setHl w).e = x.e := rfl
@[simp] theorem RegSet.setHl_f (x : RegSet) (w : Word) : (x.setHl w).f = x.f := rfl
@[simp] theorem RegSet.setHl_h (x : RegSet) (w : Word) : (x.setHl w).h = hiByte w := rfl
@[simp] theorem RegSet.setHl_l (x : RegSet) (w : Word) : (x.setHl w).l = loByte w := rfl
@[simp] theorem RegSet.setAf_a (x : RegSet) (w : Word) : (x.setAf w).a = hiByte w := rfl
@[simp] theorem RegSet.setAf_b (x : RegSet) (w : Word) : (x.setAf w).b = x.b := rfl
@[simp] theorem RegSet.setAf_c (x : RegSet) (w : Word) : (x.setAf w).c = x.c := rfl
@[simp] theorem RegSet.setAf_d (x : RegSet) (w : Word) : (x.setAf w).d = x.d := rfl
@[simp] theorem RegSet.setAf_e (x : RegSet) (w : Word) : (x.setAf w).e = x.e := rfl
@[simp] theorem RegSet.setAf_f (x : RegSet) (w : Word) : (x.setAf w).f = loByte w := rfl
@[simp] theorem RegSet.setAf_h (x : RegSet) (w : Word) : (x.setAf w).h = x.h := rfl
@[simp] theorem RegSet.setAf_l (x : RegSet) (w : Word) : (x.setAf w).l = x.l := rfl

end Sys2Proof.Machine
end

