-- ==== Sys2Proof/Laws/Memory.lean ====
section
/-! SUPPORT. Laws of memory: read after write, the canonical form, and what one physical access does. -/
namespace Sys2Proof.Machine

/-- Below the first key nothing is listed. -/
theorem cellRead_below {m : List Host.Cell} {lo k : Nat} (h : Memory.wfFrom lo m = true) (hk : k < lo) :
    cellRead m k = unlistedByte := by
  induction m generalizing lo with
  | nil => rfl
  | cons c rest ih =>
    obtain ⟨j, x⟩ := c
    simp only [Memory.wfFrom, Bool.and_eq_true, decide_eq_true_eq] at h
    have hne : ¬ k = j := by omega
    simp only [cellRead, hne, if_false]
    exact ih h.2 (by omega)

/-- A looser lower bound. -/
theorem wfFrom_weaken {m : List Host.Cell} {lo lo' : Nat} (h : Memory.wfFrom lo m = true) (hl : lo' ≤ lo) :
    Memory.wfFrom lo' m = true := by
  cases m with
  | nil => rfl
  | cons c rest =>
    obtain ⟨j, x⟩ := c
    simp only [Memory.wfFrom, Bool.and_eq_true, decide_eq_true_eq] at h ⊢
    exact ⟨⟨⟨by omega, h.1.1.2⟩, h.1.2⟩, h.2⟩

/-- A write of one cell keeps the canonical form. -/
theorem wfFrom_cellWrite {m : List Host.Cell} {lo k : Nat} (v : Byte) (h : Memory.wfFrom lo m = true) (hlo : lo ≤ k)
    (hk : k < cellCount) : Memory.wfFrom lo (cellWrite m k v) = true := by
  induction m generalizing lo with
  | nil =>
    by_cases hv : v = unlistedByte <;> simp [cellWrite, hv, Memory.wfFrom, hlo, hk]
  | cons c rest ih =>
    obtain ⟨j, x⟩ := c
    have h' := h
    simp only [Memory.wfFrom, Bool.and_eq_true, decide_eq_true_eq] at h'
    obtain ⟨⟨⟨h1, h2⟩, h3⟩, h4⟩ := h'
    unfold cellWrite
    split
    · rename_i hlt
      split
      · exact h
      · rename_i hv
        simp only [Memory.wfFrom, Bool.and_eq_true, decide_eq_true_eq]
        exact ⟨⟨⟨hlo, hk⟩, hv⟩, ⟨⟨⟨by omega, h2⟩, h3⟩, h4⟩⟩
    · split
      · rename_i heq
        split
        · exact wfFrom_weaken h4 (by omega)
        · rename_i hv
          simp only [Memory.wfFrom, Bool.and_eq_true, decide_eq_true_eq]
          exact ⟨⟨⟨hlo, hk⟩, hv⟩, by rw [heq]; exact h4⟩
      · simp only [Memory.wfFrom, Bool.and_eq_true, decide_eq_true_eq]
        exact ⟨⟨⟨h1, h2⟩, h3⟩, ih h4 (by omega)⟩

/-- `Memory.wf` is kept by a write to a cell that exists. -/
theorem wf_cellWrite {m : List Host.Cell} {k : Nat} (v : Byte) (h : Memory.wf m = true) (hk : k < cellCount) :
    Memory.wf (cellWrite m k v) = true := wfFrom_cellWrite v h (Nat.zero_le k) hk

/-- A write leaves every other cell alone. -/
theorem cellRead_cellWrite_other (m : List Host.Cell) {k j : Nat} (v : Byte) (h : j ≠ k) :
    cellRead (cellWrite m k v) j = cellRead m j := by
  induction m with
  | nil => by_cases hv : v = unlistedByte <;> simp [cellWrite, hv, cellRead, h]
  | cons c rest ih =>
    obtain ⟨i, x⟩ := c
    unfold cellWrite
    split
    · split
      · rfl
      · simp [cellRead, h]
    · split
      · rename_i heq
        subst heq
        split <;> simp [cellRead, h]
      · simp only [cellRead, ih]

/-- A read gives what was written. -/
theorem cellRead_cellWrite_self {m : List Host.Cell} {lo k : Nat} (v : Byte) (h : Memory.wfFrom lo m = true) :
    cellRead (cellWrite m k v) k = v := by
  induction m generalizing lo with
  | nil => by_cases hv : v = unlistedByte <;> simp [cellWrite, hv, cellRead]
  | cons c rest ih =>
    obtain ⟨i, x⟩ := c
    have h' := h
    simp only [Memory.wfFrom, Bool.and_eq_true, decide_eq_true_eq] at h'
    unfold cellWrite
    split
    · rename_i hlt
      split
      · rename_i hv
        rw [hv]
        exact cellRead_below (lo := k + 1) (by
          simp only [Memory.wfFrom, Bool.and_eq_true, decide_eq_true_eq]
          exact ⟨⟨⟨by omega, h'.1.1.2⟩, h'.1.2⟩, h'.2⟩) (by omega)
      · simp [cellRead]
    · split
      · rename_i heq
        split
        · rename_i hv
          rw [hv]
          exact cellRead_below (lo := i + 1) h'.2 (by omega)
        · simp [cellRead]
      · rename_i hne
        simp only [cellRead, hne, if_false]
        exact ih h'.2

/-- A cell key is one of the cells. -/
theorem cellKey_lt (cfg : Params) (i : Fin 6) (a : Phys) : cellKey cfg i a < cellCount := by
  unfold cellKey cellCount
  have h1 := i.isLt
  have h2 := Nat.mod_lt (a.toNat % 2 ^ cfg.devices[i].addrBits) (by omega : 0 < 0x100000)
  omega

/-- The cell of a physical address is one of the cells. -/
theorem physCell_lt (cfg : Params) (m : Mmu) (x : Bool) (pa : Phys) : physCell cfg m x pa < cellCount :=
  cellKey_lt _ _ _

@[simp] theorem State.physRead_fst (s : State) (x : Bool) (pa : Phys) : (s.physRead x pa).1 = s.physByte x pa := rfl
@[simp] theorem State.physRead_cfg (s : State) (x : Bool) (pa : Phys) : (s.physRead x pa).2.cfg = s.cfg := by
  unfold State.physRead; split <;> rfl
@[simp] theorem State.physRead_cpu (s : State) (x : Bool) (pa : Phys) : (s.physRead x pa).2.cpu = s.cpu := by
  unfold State.physRead; split <;> rfl
@[simp] theorem State.physRead_mem (s : State) (x : Bool) (pa : Phys) : (s.physRead x pa).2.mem = s.mem := by
  unfold State.physRead; split <;> rfl
@[simp] theorem State.physRead_inbox (s : State) (x : Bool) (pa : Phys) : (s.physRead x pa).2.inbox = s.inbox := by
  unfold State.physRead; split <;> rfl
@[simp] theorem State.physRead_writesLeft (s : State) (x : Bool) (pa : Phys) :
    (s.physRead x pa).2.writesLeft = s.writesLeft := by unfold State.physRead; split <;> rfl

/-- What a physical read does: it leaves the state alone, or uses up a free value. -/
theorem State.physRead_spec (s : State) (x : Bool) (pa : Phys) :
    (s.physRead x pa).2 = s ∨ (s.physRead x pa).2 = { s with dev := { s.dev with free := s.dev.free + 1 } } := by
  unfold State.physRead
  by_cases h : s.physDriven x pa = true
  · exact .inl (by simp [h])
  · exact .inr (by simp [h])

@[simp] theorem State.physWrite_cfg (s : State) (x : Bool) (pa : Phys) (v : Byte) : (s.physWrite x pa v).cfg = s.cfg := rfl
@[simp] theorem State.physWrite_cpu (s : State) (x : Bool) (pa : Phys) (v : Byte) : (s.physWrite x pa v).cpu = s.cpu := rfl
@[simp] theorem State.physWrite_inbox (s : State) (x : Bool) (pa : Phys) (v : Byte) :
    (s.physWrite x pa v).inbox = s.inbox := rfl
/-- What a physical write does to the devices: it may request the write-protection interrupt. -/
theorem State.physWrite_dev (s : State) (x : Bool) (pa : Phys) (v : Byte) :
    (s.physWrite x pa v).dev = if s.writesGoOn then s.noteWrite pa else s.dev := rfl
@[simp] theorem State.physWrite_writesLeft (s : State) (x : Bool) (pa : Phys) (v : Byte) :
    (s.physWrite x pa v).writesLeft = s.oneWriteLess := rfl
@[simp] theorem State.noteWrite_mmu (s : State) (pa : Phys) : (s.noteWrite pa).mmu = s.dev.mmu := rfl
@[simp] theorem State.noteWrite_user (s : State) (pa : Phys) : (s.noteWrite pa).user = s.dev.user := rfl

/-- A write leaves every cell it does not reach alone. -/
theorem cellRead_writeTargets_other (m : List Host.Cell) (v : Byte) (ts : List (Nat × Bool)) {k : Nat}
    (h : k ∉ ts.map Prod.fst) : cellRead (writeTargets m v ts) k = cellRead m k := by
  induction ts generalizing m with
  | nil => rfl
  | cons t rest ih =>
    obtain ⟨j, w⟩ := t
    simp only [List.map_cons, List.mem_cons, not_or] at h
    cases w
    · exact ih _ h.2
    · exact (ih _ h.2).trans (cellRead_cellWrite_other _ _ h.1)

/-- A write keeps the canonical form. -/
theorem wf_writeTargets {m : List Host.Cell} (v : Byte) (ts : List (Nat × Bool)) (h : Memory.wf m = true)
    (hk : ∀ c ∈ ts, c.1 < cellCount) : Memory.wf (writeTargets m v ts) = true := by
  induction ts generalizing m with
  | nil => exact h
  | cons t rest ih =>
    obtain ⟨j, w⟩ := t
    cases w
    · exact ih h fun c hc => hk c (List.mem_cons_of_mem _ hc)
    · exact ih (wf_cellWrite _ h (hk (j, true) List.mem_cons_self)) fun c hc => hk c (List.mem_cons_of_mem _ hc)

/-- Each cell a write reaches holds the byte afterwards, or its old one where the write does not change it. -/
theorem cellRead_writeTargets {m : List Host.Cell} (v : Byte) (ts : List (Nat × Bool)) (h : Memory.wf m = true)
    (hk : ∀ c ∈ ts, c.1 < cellCount) (hn : (ts.map Prod.fst).Nodup) :
    ∀ c ∈ ts, cellRead (writeTargets m v ts) c.1 = if c.2 then v else cellRead m c.1 := by
  induction ts generalizing m with
  | nil => intro c hc; cases hc
  | cons t rest ih =>
    obtain ⟨j, w⟩ := t
    simp only [List.map_cons, List.nodup_cons] at hn
    have hr : ∀ c ∈ rest, c.1 < cellCount := fun c hc => hk c (List.mem_cons_of_mem _ hc)
    intro c hc
    rcases List.mem_cons.1 hc with rfl | hm
    · cases w
      · exact cellRead_writeTargets_other m v rest hn.1
      · exact (cellRead_writeTargets_other (cellWrite m j v) v rest hn.1).trans (cellRead_cellWrite_self (lo := 0) v h)
    · have hne : c.1 ≠ j := fun e => hn.1 (e ▸ List.mem_map_of_mem hm)
      cases w
      · exact ih h hr hn.2 c hm
      · rw [writeTargets, ih (wf_cellWrite _ h (hk (j, true) List.mem_cons_self)) hr hn.2 c hm,
          cellRead_cellWrite_other _ _ hne]

/-- The cells a physical write reaches exist. -/
theorem State.physTargets_lt (s : State) (x : Bool) (pa : Phys) : ∀ c ∈ s.physTargets x pa, c.1 < cellCount := by
  intro c hc
  obtain ⟨i, -, rfl⟩ := List.mem_map.1 hc
  exact cellKey_lt _ _ _

/-- While `MMIDR[4]` = 0 the one device selected is the one the bank control names. -/
theorem selectedDevices_normal {m : Mmu} (mb : Byte) (h : bit m.mmidr 4 = false) : selectedDevices m mb = [deviceIndex mb] := by
  simp [selectedDevices, h]

/-- Outside an instruction a reset falls into, the writes go on. -/
@[simp] theorem State.writesGoOn_of_none {s : State} (h : s.writesLeft = none) : s.writesGoOn = true := by
  simp [State.writesGoOn, h]

@[simp] theorem State.oneWriteLess_of_none {s : State} (h : s.writesLeft = none) : s.oneWriteLess = none := by
  simp [State.oneWriteLess, h]

/-- What a physical write does to memory: it changes at most the cells it reaches. -/
theorem State.physWrite_other (s : State) (x : Bool) (pa : Phys) (v : Byte) {k : Nat}
    (h : k ∉ (s.physTargets x pa).map Prod.fst) : cellRead (s.physWrite x pa v).mem k = cellRead s.mem k := by
  unfold State.physWrite
  dsimp only
  split
  · exact cellRead_writeTargets_other _ _ _ h
  · rfl

/-- A physical write keeps the canonical form. -/
theorem State.wf_physWrite (s : State) (x : Bool) (pa : Phys) (v : Byte) (hm : Memory.wf s.mem = true) :
    Memory.wf (s.physWrite x pa v).mem = true := by
  unfold State.physWrite
  dsimp only
  split
  · exact wf_writeTargets _ _ hm (s.physTargets_lt x pa)
  · exact hm

/-- A data write keeps the canonical form. -/
theorem State.wf_memWrite (s : State) (a : Word) (v : Byte) (hm : Memory.wf s.mem = true) :
    Memory.wf (s.memWrite a v).mem = true := s.wf_physWrite _ _ _ hm

@[simp] theorem State.memRead_fst (s : State) (a : Word) : (s.memRead a).1 = s.peek a := rfl
@[simp] theorem State.memRead_cfg (s : State) (a : Word) : (s.memRead a).2.cfg = s.cfg := s.physRead_cfg _ _
@[simp] theorem State.memRead_cpu (s : State) (a : Word) : (s.memRead a).2.cpu = s.cpu := s.physRead_cpu _ _
@[simp] theorem State.memRead_mem (s : State) (a : Word) : (s.memRead a).2.mem = s.mem := s.physRead_mem _ _
@[simp] theorem State.memRead_inbox (s : State) (a : Word) : (s.memRead a).2.inbox = s.inbox := s.physRead_inbox _ _
@[simp] theorem State.memWrite_cfg (s : State) (a : Word) (v : Byte) : (s.memWrite a v).cfg = s.cfg := rfl
@[simp] theorem State.memWrite_cpu (s : State) (a : Word) (v : Byte) : (s.memWrite a v).cpu = s.cpu := rfl
@[simp] theorem State.memWrite_inbox (s : State) (a : Word) (v : Byte) : (s.memWrite a v).inbox = s.inbox := rfl

@[simp] theorem State.memRead_writesLeft (s : State) (a : Word) : (s.memRead a).2.writesLeft = s.writesLeft :=
  s.physRead_writesLeft _ _
@[simp] theorem State.memWrite_writesLeft (s : State) (a : Word) (v : Byte) : (s.memWrite a v).writesLeft = s.oneWriteLess := rfl

/-- A data write changes at most the cells of its address. -/
theorem State.memWrite_other (s : State) (a : Word) (v : Byte) {k : Nat} (h : k ∉ (s.dataTargets a).map Prod.fst) :
    cellRead (s.memWrite a v).mem k = cellRead s.mem k := s.physWrite_other _ _ _ h

/-- Memory after reset is in its canonical form. -/
theorem reset_memory_wf : Memory.wf State.reset.mem = true := rfl

end Sys2Proof.Machine
end

