-- ==== Sys2Proof/Laws/Devices.lean ====
section
/-! SUPPORT. Laws of the devices: which operation keeps the reserved bits, and which leaves the guarded registers alone. -/
namespace Sys2Proof.Machine

/-- The part of the devices `DevInv` speaks of. -/
def Dev.kept (d : Dev) : Mmu × Byte × Byte × Byte × Byte × Byte × Byte × Boot :=
  (d.mmu, d.user.edmr, d.sys.gcdr, d.sys.gcm0r, d.sys.gcm1r, d.ports.pcOut, d.ports.pcfr, d.boot)

/-- Devices with the same guarded part meet the invariant together. -/
theorem DevInv.of_kept {rev : Rev} {d e : Dev} (h : DevInv rev d) (hk : e.kept = d.kept) : DevInv rev e := by
  simp only [Dev.kept, Prod.mk.injEq] at hk
  obtain ⟨h1, h2, h3, h4, h5, h6, h7, h8⟩ := hk
  exact ⟨h1 ▸ h.mmu, h2 ▸ h.edmr, h3 ▸ h.gcdr, h4 ▸ h5 ▸ h.spreader, h6 ▸ h7 ▸ h.portC, h8 ▸ h.boot⟩

@[simp] theorem Dev.kept_draw (d : Dev) : (d.draw).2.kept = d.kept := rfl
@[simp] theorem Dev.kept_show (d : Dev) (o : HostOut) : (d.show o).kept = d.kept := rfl
@[simp] theorem Dev.kept_setSer (d : Dev) (p : SerialId) (x : SerialPort) : (d.setSer p x).kept = d.kept := rfl
@[simp] theorem kept_catchEdges (rev : Rev) (o d : Dev) : (catchEdges rev o d).kept = d.kept := rfl
@[simp] theorem kept_catchStrobe (d : Dev) (b : Fin 8) : (catchStrobe d b).kept = d.kept := by
  unfold catchStrobe; split <;> rfl
@[simp] theorem Dev.kept_setTimed (d : Dev) (p : TPort) (x : TimedPort) : (d.setTimed p x).kept = d.kept := by
  cases p <;> rfl
@[simp] theorem kept_readPins (rev : Rev) (d : Dev) (p : PortId) : (readPins rev d p).2.kept = d.kept := by
  unfold readPins; split <;> rfl
@[simp] theorem kept_samplePin (rev : Rev) (d : Dev) (p : PortId) (k : Fin 8) : (samplePin rev d p k).2.kept = d.kept := by
  unfold samplePin; split <;> rfl
@[simp] theorem kept_serialRead (d : Dev) (p : SerialId) (b : Bool) : (serialRead d p b).2.kept = d.kept := by
  unfold serialRead; dsimp only; rw [Dev.kept_setSer]; split <;> rfl
@[simp] theorem kept_serialWrite (cfg : Params) (d : Dev) (p : SerialId) (c : TxChar) :
    (serialWrite cfg d p c).kept = d.kept := by unfold serialWrite; split <;> rfl
@[simp] theorem kept_serialStatusWrite (d : Dev) (p : SerialId) : (serialStatusWrite d p).kept = d.kept := rfl
@[simp] theorem kept_portABug (rev : Rev) (a : Nat) (v : Byte) (d : Dev) : (portABug rev a v d).kept = d.kept := by
  unfold portABug
  cases rev
  · dsimp only; split <;> rfl
  · rfl

@[simp] theorem kept_quadSample (rev : Rev) (d : Dev) (sel : BitVec 2) (x : Fin 2) :
    (quadSample rev d sel x).2.kept = d.kept := (kept_samplePin _ _ _ _).trans (kept_samplePin _ _ _ _)
@[simp] theorem Dev.kept_setQuad (d : Dev) (x : Fin 2) (c : QuadChan) : (d.setQuad x c).kept = d.kept := rfl

/-- A write to QDCR leaves the guarded part alone. -/
theorem kept_quadControl (rev : Rev) (d : Dev) (v : Byte) : (quadControl rev d v).kept = d.kept := by
  have hr : ∀ (x : Fin 2) (e : Dev), (quadReselect rev v x e).kept = e.kept := fun x e => by
    unfold quadReselect; split
    · rfl
    · simp
  have hw : ∀ (x : Fin 2) (e : Dev), (quadWiden rev v x e).kept = e.kept := fun x e => by
    unfold quadWiden; split <;> rfl
  exact (hw _ _).trans ((hw _ _).trans ((hr _ _).trans (hr _ _)))

/-- A burst that begins changes only the burst, the receive code and the baud count. -/
theorem SerialPort.freeBurst_eq (p : SerialPort) : p.freeBurst =
    { p with burst := p.freeBurst.burst, recvCode := p.freeBurst.recvCode, baud := p.freeBurst.baud } := by
  unfold SerialPort.freeBurst SerialPort.ownBurst SerialPort.startBurst
  split
  · split
    · split <;> rfl
    · rfl
  · rfl

/-- A read that empties the receive buffer clears its request and leaves the transmitter's alone (`64_serial_slave.md` R832,
R853). -/
theorem serialRead_request (d : Dev) (p : SerialId) (b : Bool) (h : (d.ser p).rxWait = []) :
    serialRequest (serialRead d p b).2 p = (d.ser p).txReq := by
  have hs : ∀ (e : Dev) (x : SerialPort), (e.setSer p x).ser p = x := fun e x => by simp [Dev.ser, Dev.setSer]
  have hf : ∀ x : SerialPort, x.rxFull = false → x.rxReq = false →
      ((if bit x.freeBurst.cr 3 then x.freeBurst.rxFull else x.freeBurst.rxReq) || x.freeBurst.txReq) = x.txReq :=
    fun x h1 h2 => by rw [SerialPort.freeBurst_eq]; simp [h1, h2]
  unfold serialRequest serialRead
  dsimp only
  rw [hs]
  split <;> simp only [SerialPort.takeRx, SerialPort.nextRx, h]
  · exact hf _ rfl rfl
  · simp

/-- A read of an internal I/O register leaves the guarded part alone. -/
theorem kept_readReg (cfg : Params) (d : Dev) (r : IoReg) : (readReg cfg d r).2.kept = d.kept := by
  cases r with
  | serial p q => cases q <;> first | rfl | exact kept_serialRead _ _ _
  | padr => exact kept_readPins _ _ _
  | pbdr => exact kept_readPins _ _ _
  | pcdr => exact kept_readPins _ _ _
  | portDr p => exact kept_readPins _ _ _
  | _ => rfl

/-- An internal I/O read leaves the guarded part alone. -/
theorem kept_ioReadInternal (cfg : Params) (u : Bool) (d : Dev) (a : Word) :
    (ioReadInternal cfg u d a).2.kept = d.kept := by
  unfold ioReadInternal
  dsimp only
  split
  · rfl
  · split
    · exact kept_readReg _ _ _
    · rfl

@[simp] theorem kept_extAddressPhase (rev : Rev) (d : Dev) (a : Word) (b : Bool) :
    (extAddressPhase rev d a b).kept = d.kept := by
  unfold extAddressPhase
  dsimp only
  split <;> split <;> first | rfl | (rw [kept_catchStrobe]; done) | (rw [kept_catchStrobe]; rfl)

@[simp] theorem kept_unansweredRead (bus : DataBus) (d : Dev) : (unansweredRead bus d).2.kept = d.kept := by cases bus <;> rfl

/-- An external I/O read leaves the guarded part alone. -/
theorem kept_ioReadExternal (cfg : Params) (u : Bool) (d : Dev) (a : Word) :
    (ioReadExternal cfg u d a).2.kept = d.kept := by
  unfold ioReadExternal
  dsimp only
  split
  · exact kept_extAddressPhase _ _ _ _
  · rw [Dev.kept_show, kept_unansweredRead, kept_extAddressPhase]
  · rw [Dev.kept_show, Dev.kept_draw, kept_extAddressPhase]

/-- An external I/O write leaves the guarded part alone. -/
theorem kept_ioWriteExternal (cfg : Params) (u : Bool) (d : Dev) (a : Word) (v : Byte) :
    (ioWriteExternal cfg u d a v).kept = d.kept := by
  unfold ioWriteExternal
  dsimp only
  rw [Dev.kept_show, kept_extAddressPhase]

/-- A guarded write that answers is allowed and does what it says. -/
theorem guarded_ok {ok : Bool} {n : String} {v : Byte} {d e : Dev} (h : guarded ok n v d = .ok e) : ok = true ∧ e = d := by
  unfold guarded at h
  split at h
  · rename_i hok
    injection h with h
    exact ⟨hok, h.symm⟩
  · cases h

theorem kept_serialControl (cfg : Params) (d : Dev) (p : SerialId) (v : Byte) : (serialControl cfg d p v).kept = d.kept := by
  unfold serialControl; dsimp only; split <;> rfl

/-- Devices that differ in the memory management registers only. -/
theorem DevInv.withMmu {rev : Rev} {d : Dev} (h : DevInv rev d) {m : Mmu} (hm : MmuReserved rev m) :
    DevInv rev { d with mmu := m } := ⟨hm, h.edmr, h.gcdr, h.spreader, h.portC, h.boot⟩

/-- The reserved bits of MMIDR after a write. -/
theorem mmidr_reserved (rev : Rev) (v : Byte) :
    (v &&& (match rev with | .r3000 => 0x3F | .r3000A => 0xBF)) &&& (match rev with | .r3000 => 0xC0 | .r3000A => 0x40)
      = (0 : Byte) := by cases rev <;> (rw [BitVec.and_assoc]; simp)

/-- A write to an internal I/O register keeps the invariant. -/
theorem DevInv.writeReg {cfg : Params} {d e : Dev} {r : IoReg} {v : Byte} (h : DevInv cfg.rev d)
    (hw : writeReg cfg d r v = .ok e) : DevInv cfg.rev e := by
  have hm := h.mmu
  cases r with
  | gcm0r => obtain ⟨hv, rfl⟩ := guarded_ok hw; exact ⟨h.mmu, h.edmr, h.gcdr, ⟨of_decide_eq_true hv, h.spreader.2⟩, h.portC, h.boot⟩
  | gcm1r => obtain ⟨hv, rfl⟩ := guarded_ok hw; exact ⟨h.mmu, h.edmr, h.gcdr, ⟨h.spreader.1, of_decide_eq_true hv⟩, h.portC, h.boot⟩
  | gcdr => obtain ⟨hv, rfl⟩ := guarded_ok hw; exact ⟨h.mmu, h.edmr, of_decide_eq_true hv, h.spreader, h.portC, h.boot⟩
  | edmr => obtain ⟨hv, rfl⟩ := guarded_ok hw; exact ⟨h.mmu, of_decide_eq_true hv, h.gcdr, h.spreader, h.portC, h.boot⟩
  | gpscr => obtain ⟨-, rfl⟩ := guarded_ok hw; exact h.of_kept rfl
  | qdcr => obtain ⟨-, rfl⟩ := guarded_ok hw; exact h.of_kept (kept_quadControl _ _ _)
  | mtcr => obtain ⟨hv, rfl⟩ := guarded_ok hw; exact h.withMmu ⟨hm.1, hm.2, fun _ => of_decide_eq_true hv, hm.4, hm.5, hm.6, hm.7⟩
  | bdcr => obtain ⟨hv, rfl⟩ := guarded_ok hw; exact h.withMmu ⟨hm.1, hm.2, hm.3, fun _ => of_decide_eq_true hv, hm.5, hm.6, hm.7⟩
  | wpcr => obtain ⟨hv, rfl⟩ := guarded_ok hw; exact h.withMmu ⟨hm.1, hm.2, hm.3, hm.4, of_decide_eq_true hv, hm.6, hm.7⟩
  | stkcr => obtain ⟨hv, rfl⟩ := guarded_ok hw; exact h.withMmu ⟨hm.1, hm.2, hm.3, hm.4, hm.5, of_decide_eq_true hv, hm.7⟩
  | wpsr x =>
    obtain ⟨hv, rfl⟩ := guarded_ok hw
    refine h.withMmu ⟨hm.1, hm.2, hm.3, hm.4, hm.5, hm.6, fun y => ?_⟩
    by_cases hxy : x = y
    · subst hxy; simpa using hv
    · have hne : x.val ≠ y.val := fun e => hxy (Fin.ext e)
      simpa [hne] using hm.7 y
  | mmidr =>
    injection hw with hw; subst hw
    exact h.withMmu ⟨mmidr_reserved _ _, hm.2, hm.3, hm.4, hm.5, hm.6, hm.7⟩
  | mecr =>
    injection hw with hw; subst hw
    refine h.withMmu ⟨hm.1, ?_, hm.3, hm.4, hm.5, hm.6, hm.7⟩
    show (v &&& 0x07) &&& 0xF8 = 0
    rw [BitVec.and_assoc]; simp
  | stackseg => injection hw with hw; subst hw; exact h.withMmu ⟨hm.1, hm.2, hm.3, hm.4, hm.5, hm.6, hm.7⟩
  | dataseg => injection hw with hw; subst hw; exact h.withMmu ⟨hm.1, hm.2, hm.3, hm.4, hm.5, hm.6, hm.7⟩
  | segsize => injection hw with hw; subst hw; exact h.withMmu ⟨hm.1, hm.2, hm.3, hm.4, hm.5, hm.6, hm.7⟩
  | mbcr k => injection hw with hw; subst hw; exact h.withMmu ⟨hm.1, hm.2, hm.3, hm.4, hm.5, hm.6, hm.7⟩
  | stkllr => injection hw with hw; subst hw; exact h.withMmu ⟨hm.1, hm.2, hm.3, hm.4, hm.5, hm.6, hm.7⟩
  | stkhlr => injection hw with hw; subst hw; exact h.withMmu ⟨hm.1, hm.2, hm.3, hm.4, hm.5, hm.6, hm.7⟩
  | ramsr => injection hw with hw; subst hw; exact h.withMmu ⟨hm.1, hm.2, hm.3, hm.4, hm.5, hm.6, hm.7⟩
  | wplr => injection hw with hw; subst hw; exact h.withMmu ⟨hm.1, hm.2, hm.3, hm.4, hm.5, hm.6, hm.7⟩
  | wphr => injection hw with hw; subst hw; exact h.withMmu ⟨hm.1, hm.2, hm.3, hm.4, hm.5, hm.6, hm.7⟩
  | wpslr x => injection hw with hw; subst hw; exact h.withMmu ⟨hm.1, hm.2, hm.3, hm.4, hm.5, hm.6, hm.7⟩
  | wpshr x => injection hw with hw; subst hw; exact h.withMmu ⟨hm.1, hm.2, hm.3, hm.4, hm.5, hm.6, hm.7⟩
  | pcdr =>
    injection hw with hw; subst hw
    refine ⟨h.mmu, h.edmr, h.gcdr, h.spreader, ⟨?_, h.portC.2⟩, h.boot⟩
    show (v &&& 0x55) &&& 0xAA = 0
    rw [BitVec.and_assoc]; simp
  | pcfr =>
    injection hw with hw; subst hw
    refine ⟨h.mmu, h.edmr, h.gcdr, h.spreader, ⟨h.portC.1, ?_⟩, h.boot⟩
    show (v &&& 0x55) &&& 0xAA = 0
    rw [BitVec.and_assoc]; simp
  | rtc k => injection hw with hw; subst hw; exact h.of_kept (by split <;> rfl)
  | spcr => injection hw with hw; subst hw; exact h.of_kept (by split <;> rfl)
  | portDr p => injection hw with hw; subst hw; exact h.of_kept (Dev.kept_setTimed _ _ _)
  | portCr p => injection hw with hw; subst hw; exact h.of_kept (Dev.kept_setTimed _ _ _)
  | portFr p => injection hw with hw; subst hw; exact h.of_kept (Dev.kept_setTimed _ _ _)
  | portDcr p => injection hw with hw; subst hw; exact h.of_kept (Dev.kept_setTimed _ _ _)
  | portDdr p => injection hw with hw; subst hw; exact h.of_kept (Dev.kept_setTimed _ _ _)
  | portBit p k => injection hw with hw; subst hw; exact h.of_kept (Dev.kept_setTimed _ _ _)
  | serial p q =>
    cases q with
    | lr =>
      unfold Machine.writeReg at hw
      dsimp only at hw
      split at hw
      · cases hw
      · injection hw with hw; subst hw; exact h.of_kept (kept_serialWrite _ _ _ _)
    | cr =>
      unfold Machine.writeReg at hw
      dsimp only at hw
      split at hw
      · cases hw
      · injection hw with hw; subst hw; exact h.of_kept (kept_serialControl _ _ _ _)
    | er =>
      unfold Machine.writeReg at hw
      dsimp only at hw
      split at hw
      · cases hw
      · injection hw with hw; subst hw; exact h.of_kept rfl
    | dr => injection hw with hw; subst hw; exact h.of_kept (kept_serialWrite _ _ _ _)
    | ar => injection hw with hw; subst hw; exact h.of_kept (kept_serialWrite _ _ _ _)
    | sr => injection hw with hw; subst hw; exact h.of_kept rfl
  | _ => injection hw with hw; subst hw; exact h.of_kept rfl

/-- An internal I/O write that is not refused keeps the invariant. -/
theorem DevInv.ioWriteInternal {cfg : Params} {u : Bool} {d e : Dev} {a : Word} {v : Byte} (h : DevInv cfg.rev d)
    (hw : ioWriteInternal cfg u d a v = .ok e) : DevInv cfg.rev e := by
  unfold Machine.ioWriteInternal at hw
  dsimp only at hw
  split at hw
  · injection hw with hw; exact hw ▸ h
  · unfold writeLocation at hw
    split at hw
    · rename_i r hr
      cases hq : Machine.writeReg cfg d r v with
      | error x => rw [hq] at hw; cases hw
      | ok f =>
        rw [hq] at hw
        injection hw with hw; subst hw
        exact (h.writeReg hq).of_kept (by rw [kept_catchEdges, kept_portABug])
    · injection hw with hw; subst hw
      exact h.of_kept (by rw [kept_catchEdges, kept_portABug])

/-! The events of the outside world -/

@[simp] theorem kept_serialDeliver (cfg : Params) (d : Dev) (p : SerialId) (c : RxChar) (e : Dev) (he : e.kept = d.kept) :
    (serialDeliver cfg e p c).kept = d.kept := by
  unfold serialDeliver; split <;> exact he

theorem kept_serialBurstTx (cfg : Params) (d : Dev) (p : SerialId) (b : Bool) : (serialBurstTx cfg d p b).kept = d.kept := by
  unfold serialBurstTx; split <;> rfl

theorem kept_serialBurstRx (cfg : Params) (d : Dev) (p : SerialId) (b : Bool) (v : Byte) :
    (serialBurstRx cfg d p b v).kept = d.kept := by
  unfold serialBurstRx; split
  · exact kept_serialDeliver _ _ _ _ _ rfl
  · rfl

theorem kept_serialBurstReady (cfg : Params) (d : Dev) (p : SerialId) : (serialBurstReady cfg d p).kept = d.kept := by
  unfold serialBurstReady; dsimp only
  split
  · exact kept_serialBurstRx _ _ _ _ _
  · rfl

theorem kept_serialBurstEnd (cfg : Params) (d : Dev) (p : SerialId) (v : Byte) : (serialBurstEnd cfg d p v).kept = d.kept := by
  unfold serialBurstEnd; dsimp only
  split
  · exact (kept_serialBurstTx _ _ _ _).trans (kept_serialBurstRx _ _ _ _ _)
  · rfl

theorem kept_serialUnitEnd (cfg : Params) (p : SerialId) (d : Dev) : (serialUnitEnd cfg d p).kept = d.kept := by
  unfold serialUnitEnd; dsimp only
  split
  · rfl
  · split <;> rfl
  · rfl

/-- A serial event leaves the guarded part alone. -/
theorem kept_serialEvents (cfg : Params) (d : Dev) (p : SerialId) :
    (∀ v n, (serialCharEvent cfg d p v n).kept = d.kept) ∧ (serialStartEvent cfg d p).kept = d.kept ∧
    (serialBreakEvent cfg d p).kept = d.kept ∧ (serialTxDoneEvent cfg d p).kept = d.kept ∧
    (∀ v, (serialBurstEvent cfg d p v).kept = d.kept) ∧ (∀ b, (serialClockEvent cfg d p b).kept = d.kept) ∧
    (serialBurstStartEvent d p).kept = d.kept ∧
    (∀ v s6 s4 x, (hdlcByteEvent cfg d p v s6 s4 x).kept = d.kept) ∧ (hdlcFlagEvent d p).kept = d.kept := by
  have hd : ∀ (e : Dev) (c : RxChar), (serialDeliver cfg e p c).kept = e.kept := fun e c =>
    kept_serialDeliver cfg e p c e rfl
  have hc : ∀ (e : Dev) (c : RxChar), (serialComplete cfg e p c).kept = e.kept := fun e c => by
    unfold serialComplete; split
    · rfl
    · exact hd _ _
  refine ⟨fun v n => ?_, ?_, ?_, ?_, fun v => ?_, fun b => ?_, rfl, fun v s6 s4 x => ?_, ?_⟩
  · unfold serialCharEvent; dsimp only; split; · rfl
    · exact hc _ _
  · unfold serialStartEvent; dsimp only; split; · rfl
    · split <;> rfl
  · unfold serialBreakEvent; dsimp only; split; · rfl
    · exact hc _ _
  · unfold serialTxDoneEvent; split
    · exact kept_serialUnitEnd _ _ _
    · rfl
  · unfold serialBurstEvent; split
    · exact kept_serialBurstEnd _ _ _ _
    · rfl
  · unfold serialClockEvent; split
    · dsimp only; split
      · rfl
      · exact kept_serialBurstEnd _ _ _ _
    · rfl
  · unfold hdlcByteEvent; dsimp only; split; · rfl
    · exact hd _ _
  · unfold hdlcFlagEvent; dsimp only; split <;> rfl

/-- A pulse of a port's baud clock leaves the guarded part alone. -/
theorem kept_serialPulse (cfg : Params) (d : Dev) (p : SerialId) : (serialPulse cfg d p).kept = d.kept := by
  have hu : ∀ (e : Dev), (serialUnitEnd cfg e p).kept = e.kept := kept_serialUnitEnd cfg p
  unfold serialPulse; dsimp only
  split
  · split
    · unfold burstPulse; dsimp only
      have hs : ∀ b : Bool, (if b then samplePin cfg.rev d ((d.ser p).rxPin p).1 ((d.ser p).rxPin p).2 else (true, d)).2.kept
          = d.kept := fun b => by
        cases b
        · rfl
        · exact kept_samplePin _ _ _ _
      split
      · exact hs _
      · split
        · split
          · exact (kept_serialBurstReady _ _ _).trans (hs _)
          · exact hs _
        · exact (kept_serialBurstEnd _ _ _ _).trans (hs _)
    · rfl
  · split
    · rfl
    · split
      · rfl
      · unfold unitPulse; dsimp only
        split
        · rfl
        · split
          · split
            · rfl
            · split
              · rfl
              · exact hu _
          · exact hu _

@[simp] theorem kept_matchSerial (b1 b2 : Bool) (d : Dev) : (matchSerial b1 b2 d).kept = d.kept := rfl

/-- One cycle of the peripheral clock leaves the guarded part alone. -/
theorem kept_perclkTick (cfg : Params) (d : Dev) : (perclkTick cfg d).kept = d.kept := by
  have hc : ∀ (e : Dev) (x : Fin 2), (captureTick cfg.rev e x).kept = e.kept := fun e x => by
    have := kept_samplePin cfg.rev (samplePin cfg.rev e (capturePort (field2 e.capture.chan[x].src 6)) (captureBit (field2 e.capture.chan[x].src 4))).2 (capturePort (field2 e.capture.chan[x].src 2)) (captureBit (field2 e.capture.chan[x].src 0))
    exact this.trans (kept_samplePin _ _ _ _)
  have hq : ∀ (e : Dev) (x : Fin 2), (quadTick cfg e x).kept = e.kept := fun e x => by
    unfold quadTick; dsimp only; split
    · exact kept_quadSample _ _ _ _
    · rfl
  have hs : ∀ (b : Bool) (e : Dev) (f : Dev → Dev), (∀ e, (f e).kept = e.kept) →
      (if b then f e else e).kept = e.kept := fun b e f hf => by cases b; · rfl
                                                                 · exact hf e
  have hp : ∀ (b : Bool) (c : BitVec 2) (p : Ports), p.pcOut = d.ports.pcOut ∧ p.pcfr = d.ports.pcfr →
      (if b then p.transferAll c else p).pcOut = d.ports.pcOut ∧ (if b then p.transferAll c else p).pcfr = d.ports.pcfr :=
    fun b c p h => by cases b <;> exact h
  have h3 := fun b0 b1 b2 b3 => hp b3 3 _ (hp b2 2 _ (hp b1 1 _ (hp b0 0 d.ports ⟨rfl, rfl⟩)))
  unfold perclkTick
  refine (kept_catchEdges _ _ _).trans ((hs _ _ (fun e => quadTick cfg (quadTick cfg e 0) 1) fun e => ?_).trans
    ((hs _ _ (fun e => { e with pwm := Pwm.tick cfg.rev e.pwm }) fun e => rfl).trans
    ((hs _ _ (fun e => captureTick cfg.rev (captureTick cfg.rev e 0) 1) fun e => ?_).trans ?_)))
  · exact (hq _ _).trans (hq _ _)
  · exact (hc _ _).trans (hc _ _)
  · have hf : ∀ (b : SerialId → Bool) (l : List SerialId) (e : Dev),
        (l.foldl (fun e id => if b id then serialPulse cfg e id else e) e).kept = e.kept := fun b l => by
      induction l with
      | nil => exact fun e => rfl
      | cons id l ih => exact fun e => (ih _).trans (hs _ _ (serialPulse cfg · id) fun e => kept_serialPulse _ _ _)
    rw [kept_matchSerial, hf]
    have h := h3 d.half (d.timerA.pulse (d.timerA.run && (if d.timerA.tapr0 then d.half else true)) 0)
      (d.timerB.matches (d.timerB.clocked d.half (d.timerA.pulse (d.timerA.run && (if d.timerA.tapr0 then d.half else true)) 0)) 0)
      (d.timerB.matches (d.timerB.clocked d.half (d.timerA.pulse (d.timerA.run && (if d.timerA.tapr0 then d.half else true)) 0)) 1)
    simp only [Dev.kept, Prod.mk.injEq, true_and, and_true]
    exact h

/-- Any number of cycles does. -/
theorem kept_perclkTicks (cfg : Params) (n : Nat) (d : Dev) : (perclkTicks cfg n d).kept = d.kept := by
  induction n generalizing d with
  | zero => rfl
  | succ n ih => exact (ih _).trans (kept_perclkTick cfg d)

@[simp] theorem kept_clk32Tick (d : Dev) : (clk32Tick d).kept = d.kept := rfl

/-- A reset leaves the devices meeting the invariant, whatever it fills the unspecified bits with. -/
theorem DevInv.atReset (rev : Rev) (fill : Nat → Byte) (cause : BitVec 2) (period : BitVec 17) (old : Dev) :
    DevInv rev (Dev.atReset rev fill cause period old) := by
  refine ⟨⟨?_, ?_, ?_, ?_, ?_, ?_, ?_⟩, ?_, ?_, ⟨?_, ?_⟩, ⟨?_, ?_⟩, Nat.zero_le _⟩
  · show (0 : Byte) &&& _ = 0
    cases rev <;> decide
  · show (0 : Byte) &&& 0xF8 = 0; decide
  · rintro rfl; show (0 : Byte) &&& 0xF0 = 0; decide
  · rintro rfl; show (0 : Byte) &&& 0x7F = 0; decide
  · show (0 : Byte) &&& 0xFE = 0; decide
  · show (0 : Byte) &&& 0xFE = 0; decide
  · show ∀ x : Fin 2, (#v[0, 0] : Vector Byte 2)[x] &&& 0xF0 = 0
    decide
  · show (0 : Byte) &&& 0xFE = 0; decide
  · show (0 : Byte) &&& 0xF0 = 0; decide
  · show (0 : Byte) &&& 0x7F = 0; decide
  · show (0 : Byte) &&& 0x7F = 0; decide
  · show (0x15 : Byte) &&& 0xAA = 0; decide
  · show (0 : Byte) &&& 0xAA = 0; decide

end Sys2Proof.Machine
end

