-- ==== Sys2Proof/Laws/Ops.lean ====
section
/-! SUPPORT. One lemma per shared operation: what it can do. -/
namespace Sys2Proof.Machine

/-- The next state of `andThen` came through the first result. -/
theorem andThen_next {r : Result} {g : State → Result} {t : State} (h : andThen r g = .next t) :
    ∃ u, r = .next u ∧ g u = .next t := by
  cases r with
  | next u => exact ⟨u, rfl, h⟩
  | fault e => cases e
  | refused e => cases h

@[simp] theorem andThen_of_next (u : State) (g : State → Result) : andThen (.next u) g = g u := rfl

/-- What an access leaves alone: the parameters, the CPU, the outside world's plans; and what it keeps: the invariant. -/
structure DataStep (s t : State) : Prop where
  cfg : t.cfg = s.cfg
  cpu : t.cpu = s.cpu
  inbox : t.inbox = s.inbox
  whole : s.writesLeft = none → t.writesLeft = none
  inv : MachineInv s → MachineInv t

theorem DataStep.refl (s : State) : DataStep s s := ⟨rfl, rfl, rfl, id, id⟩

theorem DataStep.trans {s t u : State} (h : DataStep s t) (k : DataStep t u) : DataStep s u :=
  ⟨k.cfg.trans h.cfg, k.cpu.trans h.cpu, k.inbox.trans h.inbox, k.whole ∘ h.whole, k.inv ∘ h.inv⟩

/-- Devices replaced by ones with the same guarded part. -/
theorem DataStep.withDev (s : State) {d : Dev} (h : d.kept = s.dev.kept) : DataStep s { s with dev := d } :=
  ⟨rfl, rfl, rfl, id, fun i => ⟨i.memory, i.dev.of_kept h⟩⟩

theorem State.physRead_data (s : State) (x : Bool) (pa : Phys) : DataStep s (s.physRead x pa).2 := by
  rcases s.physRead_spec x pa with h | h <;> rw [h]
  · exact .refl s
  · exact .withDev s rfl

theorem State.physWrite_data (s : State) (x : Bool) (pa : Phys) (v : Byte) : DataStep s (s.physWrite x pa v) :=
  ⟨rfl, rfl, rfl, State.oneWriteLess_of_none, fun i => ⟨s.wf_physWrite x pa v i.memory, i.dev.of_kept (by
    rw [State.physWrite_dev]; split <;> rfl)⟩⟩

theorem State.memRead_data (s : State) (a : Word) : DataStep s (s.memRead a).2 := s.physRead_data _ _

theorem State.memWrite_data (s : State) (a : Word) (v : Byte) : DataStep s (s.memWrite a v) := s.physWrite_data _ _ _

/-- A byte load leaves all but the devices alone. -/
theorem State.load8_data (s : State) (a : Word) : DataStep s (s.load8 a).2 ∧ (s.load8 a).2.mem = s.mem := by
  unfold State.load8
  split
  · exact ⟨s.memRead_data a, s.memRead_mem a⟩
  · exact ⟨.withDev s (kept_ioReadInternal _ _ _ _), rfl⟩
  · exact ⟨.withDev s (kept_ioReadExternal _ _ _ _), rfl⟩

/-- Time that passes inside a 16-bit I/O read changes devices only. -/
theorem State.timeInside_data (s : State) : DataStep s s.timeInside ∧ s.timeInside.mem = s.mem := by
  unfold State.timeInside
  split
  · exact ⟨.refl s, rfl⟩
  · exact ⟨.withDev s (kept_perclkTicks _ _ _), rfl⟩
  · exact ⟨.withDev s (kept_perclkTicks _ _ _), rfl⟩

/-- In memory no time passes inside a read. -/
@[simp] theorem State.timeInside_memory {s : State} (h : s.cpu.iospace = .memory) : s.timeInside = s := by
  simp [State.timeInside, h]

/-- A word load leaves all but the devices alone. -/
theorem State.load16_data (s : State) (a : Word) : DataStep s (s.load16 a).2 ∧ (s.load16 a).2.mem = s.mem :=
  ⟨((s.load8_data a).1.trans (State.timeInside_data _).1).trans (State.load8_data _ (a + 1)).1,
   (State.load8_data _ (a + 1)).2.trans ((State.timeInside_data _).2.trans (s.load8_data a).2)⟩

/-- An I/O write that is not refused: it changes no memory, and the devices only as it says. -/
theorem State.ioWrite_next {s t : State} {r : Except Refusal Dev} (h : s.ioWrite r = .next t) :
    t = s ∨ ∃ d, r = .ok d ∧ t = { s with dev := d, writesLeft := s.oneWriteLess } := by
  unfold State.ioWrite at h
  split at h
  · cases r with
    | ok d => injection h with h; exact .inr ⟨d, rfl, h.symm⟩
    | error e => cases h
  · injection h with h; exact .inl h.symm

/-- Outside an instruction a reset falls into, an I/O write changes the devices and nothing else. -/
@[simp] theorem State.ioWrite_ok {s : State} (d : Dev) (h : s.writesLeft = none) : s.ioWrite (.ok d) = .next { s with dev := d } := by
  have : ({ s with dev := d, writesLeft := none } : State) = { s with dev := d } := by rw [← h]
  simp [State.ioWrite, h, this]

/-- A byte store that is not refused: in memory it changes at most the cells of its address, in I/O space no memory. -/
theorem State.store8_data {s t : State} {a : Word} {v : Byte} (h : s.store8 a v = .next t) :
    DataStep s t ∧ ∀ k, (s.cpu.iospace = .memory → k ∉ s.dataCells a) → cellRead t.mem k = cellRead s.mem k := by
  unfold State.store8 at h
  split at h
  · rename_i hio
    injection h with h; subst h
    exact ⟨s.memWrite_data a v, fun k hk => s.memWrite_other a v (hk hio)⟩
  · rcases State.ioWrite_next h with rfl | ⟨d, hd, rfl⟩
    · exact ⟨.refl _, fun _ _ => rfl⟩
    · exact ⟨⟨rfl, rfl, rfl, State.oneWriteLess_of_none, fun i => ⟨i.memory, i.dev.ioWriteInternal hd⟩⟩, fun _ _ => rfl⟩
  · rcases State.ioWrite_next h with rfl | ⟨d, hd, rfl⟩
    · exact ⟨.refl _, fun _ _ => rfl⟩
    · injection hd with hd; subst hd
      exact ⟨⟨rfl, rfl, rfl, State.oneWriteLess_of_none,
        fun i => ⟨i.memory, i.dev.of_kept (kept_ioWriteExternal _ _ _ _ _)⟩⟩, fun _ _ => rfl⟩

/-- A store in memory always answers. -/
theorem State.store8_memory {s : State} (a : Word) (v : Byte) (h : s.cpu.iospace = .memory) :
    s.store8 a v = .next (s.memWrite a v) := by simp [State.store8, h]

/-- The translation does not see a memory write. -/
theorem State.memWrite_dataCells (s : State) (a b : Word) (v : Byte) : (s.memWrite a v).dataCells b = s.dataCells b := by
  cases h : s.writesGoOn <;>
    simp [State.dataCells, State.dataTargets, State.physTargets, State.memWrite, State.physWrite, State.dataPhys, h]

/-- A word store that is not refused. -/
theorem State.store16_data {s t : State} {a w : Word} (h : s.store16 a w = .next t) :
    DataStep s t ∧ ∀ k, (s.cpu.iospace = .memory → k ∉ s.dataCells a ∧ k ∉ s.dataCells (a + 1)) →
      cellRead t.mem k = cellRead s.mem k := by
  obtain ⟨u, h1, h2⟩ := andThen_next h
  have d1 := State.store8_data h1
  have d2 := State.store8_data h2
  refine ⟨d1.1.trans d2.1, fun k hk => (d2.2 k fun hio => ?_).trans (d1.2 k fun hio => (hk hio).1)⟩
  have hs : s.cpu.iospace = .memory := d1.1.cpu ▸ hio
  rw [State.store8_memory a _ hs] at h1
  injection h1 with h1; subst h1
  rw [State.memWrite_dataCells]
  exact (hk hs).2

/-- A word store in memory always answers. -/
theorem State.store16_memory {s : State} (a w : Word) (h : s.cpu.iospace = .memory) :
    s.store16 a w = .next ((s.memWrite a (loByte w)).memWrite (a + 1) (hiByte w)) := by
  have h2 : (s.memWrite a (loByte w)).cpu.iospace = .memory := h
  simp only [State.store16, State.store8_memory a _ h, andThen_of_next, State.store8_memory (a + 1) _ h2]

theorem State.ldpRead_data (s : State) (p : Word) : DataStep s (s.ldpRead p).2 ∧ (s.ldpRead p).2.mem = s.mem :=
  ⟨(s.physRead_data _ _).trans (State.physRead_data _ _ _), (State.physRead_mem _ _ _).trans (s.physRead_mem _ _)⟩

theorem State.ldpWrite_data (s : State) (p w : Word) : DataStep s (s.ldpWrite p w) :=
  (s.physWrite_data _ _ _).trans (State.physWrite_data _ _ _ _)

/-! The stack -/

theorem State.checkStack_data (s : State) (a : Word) : DataStep s (s.checkStack a) ∧ (s.checkStack a).mem = s.mem :=
  ⟨.withDev s rfl, rfl⟩

theorem State.stackRead_data (s : State) (a : Word) : DataStep s (s.stackRead a).2 ∧ (s.stackRead a).2.mem = s.mem :=
  ⟨(s.checkStack_data a).1.trans (State.memRead_data _ _), State.memRead_mem _ _⟩

theorem State.stackWrite_data (s : State) (a : Word) (v : Byte) :
    DataStep s (s.stackWrite a v) ∧ ∀ k, k ∉ s.dataCells a → cellRead (s.stackWrite a v).mem k = cellRead s.mem k :=
  ⟨(s.checkStack_data a).1.trans (State.memWrite_data _ _ _), fun _ hk => (s.checkStack a).memWrite_other a v hk⟩

/-- The translation does not see a stack write. -/
theorem State.stackWrite_dataCells (s : State) (a b : Word) (v : Byte) : (s.stackWrite a v).dataCells b = s.dataCells b :=
  (s.checkStack a).memWrite_dataCells a b v

/-- Two stack writes change at most the cells of their two addresses. -/
theorem State.stackWrites_other (s : State) (a b : Word) (v w : Byte) {k : Nat} (h1 : k ∉ s.dataCells a)
    (h2 : k ∉ s.dataCells b) : cellRead ((s.stackWrite a v).stackWrite b w).mem k = cellRead s.mem k :=
  ((State.stackWrite_data _ b w).2 k (by rw [State.stackWrite_dataCells]; exact h2)).trans ((s.stackWrite_data a v).2 k h1)

theorem State.stackRead16_data (s : State) (a : Word) :
    DataStep s (s.stackRead16 a).2 ∧ (s.stackRead16 a).2.mem = s.mem :=
  ⟨(s.stackRead_data a).1.trans (State.stackRead_data _ _).1, (State.stackRead_data _ _).2.trans (s.stackRead_data a).2⟩

theorem State.stackWrite16_data (s : State) (a w : Word) :
    DataStep s (s.stackWrite16 a w) ∧ ∀ k, k ∉ s.dataCells a → k ∉ s.dataCells (a + 1) →
      cellRead (s.stackWrite16 a w).mem k = cellRead s.mem k :=
  ⟨(s.stackWrite_data a _).1.trans (State.stackWrite_data _ _ _).1, fun _ h1 h2 =>
    s.stackWrites_other a (a + 1) _ _ h1 h2⟩

/-- Two states with the same parameters, CPU but for SP, plans, and with the invariant kept. -/
structure StackStep (s t : State) : Prop where
  cfg : t.cfg = s.cfg
  cpu : t.cpu = { s.cpu with sp := t.cpu.sp }
  inbox : t.inbox = s.inbox
  whole : s.writesLeft = none → t.writesLeft = none
  inv : MachineInv s → MachineInv t

theorem StackStep.ofData {s t : State} (h : DataStep s t) (w : Word) : StackStep s (t.setSp w) :=
  ⟨h.cfg, by show { t.cpu with sp := w } = _; rw [h.cpu]; rfl, h.inbox, h.whole, fun i => ⟨(h.inv i).memory, (h.inv i).dev⟩⟩

/-- A byte push: SP goes down by one, and the one byte is written. -/
theorem State.push8_data (s : State) (v : Byte) : StackStep s (s.push8 v) ∧ (s.push8 v).cpu.sp = s.cpu.sp - 1 ∧
    ∀ k, k ∉ s.dataCells (s.cpu.sp - 1) → cellRead (s.push8 v).mem k = cellRead s.mem k :=
  ⟨.ofData (s.stackWrite_data _ _).1 _, rfl, (s.stackWrite_data _ v).2⟩

/-- A word push: SP goes down by two, and the two bytes are written. -/
theorem State.push16_data (s : State) (w : Word) : StackStep s (s.push16 w) ∧ (s.push16 w).cpu.sp = s.cpu.sp - 2 ∧
    ∀ k, k ∉ s.dataCells (s.cpu.sp - 1) → k ∉ s.dataCells (s.cpu.sp - 2) →
      cellRead (s.push16 w).mem k = cellRead s.mem k :=
  ⟨.ofData ((s.stackWrite_data _ _).1.trans (State.stackWrite_data _ _ _).1) _, rfl,
    fun _ h1 h2 => s.stackWrites_other (s.cpu.sp - 1) (s.cpu.sp - 2) _ _ h1 h2⟩

/-- A byte pop: SP goes up by one, memory stays. -/
theorem State.pop8_data (s : State) : StackStep s s.pop8.2 ∧ s.pop8.2.cpu.sp = s.cpu.sp + 1 ∧ s.pop8.2.mem = s.mem :=
  ⟨.ofData (s.stackRead_data _).1 _, rfl, (s.stackRead_data s.cpu.sp).2⟩

/-- A word pop: SP goes up by two, memory stays. -/
theorem State.pop16_data (s : State) : StackStep s s.pop16.2 ∧ s.pop16.2.cpu.sp = s.cpu.sp + 2 ∧ s.pop16.2.mem = s.mem :=
  ⟨.ofData (s.stackRead16_data _).1 _, rfl, (s.stackRead16_data s.cpu.sp).2⟩

/-! Exceptions -/

/-- Taking an exception: SP goes down by two, SU as an entry leaves it, the program counter at the vector; nothing else of
the CPU changes, and memory only at the two pushed bytes. -/
theorem State.enter_data (s : State) (lost : Bool) (v : Word) :
    (s.enter lost v).cpu = { s.cpu with sp := s.cpu.sp - 2, su := s.systemSu, pc := v } ∧
    (s.enter lost v).cfg = s.cfg ∧ (s.enter lost v).inbox = s.inbox ∧
    (s.writesLeft = none → (s.enter lost v).writesLeft = none) ∧ (MachineInv s → MachineInv (s.enter lost v)) ∧
    ∀ k, k ∉ s.dataCells (s.cpu.sp - 1) → k ∉ s.dataCells (s.cpu.sp - 2) →
      cellRead (s.enter lost v).mem k = cellRead s.mem k := by
  cases lost
  · have h := s.push16_data s.cpu.pc
    refine ⟨?_, h.1.cfg, h.1.inbox, h.1.whole, fun i => ⟨(h.1.inv i).memory, (h.1.inv i).dev⟩, h.2.2⟩
    have hc := h.1.cpu
    rw [h.2.1] at hc
    show { (s.push16 s.cpu.pc).cpu with su := (s.push16 s.cpu.pc).systemSu, pc := v } = _
    have hu : (s.push16 s.cpu.pc).systemSu = s.systemSu := by unfold State.systemSu; rw [h.1.cfg, hc]
    rw [hu, hc]
  · exact ⟨rfl, rfl, rfl, id, fun i => ⟨i.memory, i.dev⟩, fun _ _ _ => rfl⟩

/-! Fetching -/

/-- Fetching bytes leaves all but the count of free values alone. -/
theorem State.fetchBytes_data (s : State) (n : Nat) (a : Word) :
    DataStep s (s.fetchBytes n a).2 ∧ (s.fetchBytes n a).2.mem = s.mem ∧ (s.fetchBytes n a).1.length = n := by
  induction n generalizing s a with
  | zero => exact ⟨.refl s, rfl, rfl⟩
  | succ n ih =>
    have h := ih (s.fetchRead a).2 (a + 1)
    exact ⟨(s.physRead_data _ _).trans h.1, h.2.1.trans (s.physRead_mem _ _), congrArg (· + 1) h.2.2⟩

/-- A fetched instruction: what it decodes from, and the state after. -/
theorem State.fetchInstr_data {s t : State} {i : Instr} {n : Nat} (h : s.fetchInstr = .ok (i, n, t)) :
    DataStep s t ∧ t.mem = s.mem ∧ ∃ rest, decode s.cfg.rev s.cfg.opcodes s.fetched.1 = .ok (i, rest) ∧ n = maxLength - rest.length := by
  unfold State.fetchInstr at h
  split at h
  · rename_i j rest hd
    injection h with h
    injection h with h1 h2
    injection h2 with h2 h3
    subst h1; subst h2; subst h3
    exact ⟨(s.fetchBytes_data _ _).1, (s.fetchBytes_data _ _).2.1, rest, hd, rfl⟩
  · cases h

end Sys2Proof.Machine
end

