-- ==== Sys2Proof/Laws/Access.lean ====
section
/-! SUPPORT. What destination writes, data accesses and stack accesses do, in the terms of the claims. -/
namespace Sys2Proof.Machine

/-- Writing the destination set, as `dstCpu` says it. -/
theorem State.onDst_state (s : State) (g) : s.onDst g = { s with cpu := dstCpu s.cpu g } := by
  unfold State.onDst dstCpu; split <;> rfl

/-- Writing F after a result went to the same set. -/
theorem State.onFlags_of_dstCpu (s : State) (g : Byte → Byte) (k : RegSet → RegSet) (hk : ∀ x, (k x).f = x.f) :
   ({ s with cpu := dstCpu s.cpu k } : State).onFlags g = { s with cpu := dstCpuF s.cpu k (g (dstF s.cpu)) } := by
  unfold State.onFlags; rw [State.onDst_state]; unfold dstCpuF dstF dstCpu; split <;> rename_i h <;> simp [h,hk]

/-- Writing F of the destination set alone. -/
theorem State.onFlags_state (s : State) (g : Byte → Byte) : s.onFlags g = { s with cpu := dstCpuF s.cpu id (g (dstF s.cpu)) } := by
  unfold State.onFlags; rw [State.onDst_state]; unfold dstCpuF dstF dstCpu; split <;> rename_i h <;> simp [h]

/-- What a run of byte writes leaves: the CPU, `MemoryAfter`, and the canonical form. -/
structure Wrote (s t : State) (st : Bool) (ws : List (Word × Byte)) : Prop where
  cpu : t.cpu = s.cpu
  ma : MemoryAfter s t st ws
  wf : Memory.wf s.mem = true → Memory.wf t.mem = true

/-- No write, but a free value drawn. -/
theorem Wrote.drew (s : State) (st : Bool) (n : Nat) : Wrote s { s with dev := { s.dev with free := n } } st [] := by
  refine ⟨rfl, ⟨rfl, rfl, rfl, ?_, ?_, ?_⟩, id⟩
  · simp
  · intro k _; rfl
  · intro _ _ w hw; cases hw

/-- No write. -/
theorem Wrote.nothing (s : State) (st : Bool) : Wrote s s st [] := by
  refine ⟨rfl, ⟨rfl, rfl, rfl, ?_, ?_, ?_⟩, id⟩
  · simp
  · intro k _; rfl
  · intro _ _ w hw; cases hw

/-- Translation and protection depend on the CPU, the memory registers and the parameters only. -/
theorem State.phys_congr {s t : State} (hc : t.cfg = s.cfg) (hcpu : t.cpu = s.cpu) (hm : t.dev.mmu = s.dev.mmu)
    (hu : t.dev.user = s.dev.user) :
    (∀ a, t.dataPhys a = s.dataPhys a) ∧ (∀ a, t.dataTargets a = s.dataTargets a) ∧
    (∀ p, t.physProtected p = s.physProtected p) ∧ t.stackChecked = s.stackChecked := by
  have h1 : ∀ a, t.dataPhys a = s.dataPhys a := by intro a; simp [State.dataPhys, hc, hcpu, hm]
  have h5 : t.userMode = s.userMode := by simp [State.userMode, hc, hcpu, Dev.edmf, hu]
  have h3 : ∀ p, t.physProtected p = s.physProtected p := by
    intro a; simp [State.physProtected, State.protectActive, hc, hm, h5]
  refine ⟨h1, fun a => ?_, h3, ?_⟩
  · simp [State.dataTargets, State.physTargets, State.writePulse, h3, hm, hc, h1]
  · simp [State.stackChecked, hc, hm, h5]

/-- One more write, where no reset falls inside the instruction. -/
theorem Wrote.write {s t u : State} {st : Bool} {ws : List (Word × Byte)} (hl : s.writesLeft = none) (h : Wrote s t st ws)
    (a : Word) (v : Byte) (hu : u = if st then t.stackWrite a v else t.memWrite a v) : Wrote s u st (ws ++ [(a, v)]) := by
  obtain ⟨hcpu, ⟨hcfg, hin, hleft, hdev, hsame, hval⟩, hwf⟩ := h
  have hgo : t.writesGoOn = true := State.writesGoOn_of_none (hleft.trans hl)
  have hmmu : t.dev.mmu = s.dev.mmu := by rw [hdev]
  have huser : t.dev.user = s.dev.user := by rw [hdev]
  have hucpu : u.cpu = t.cpu := by subst hu; cases st <;> rfl
  have hucfg : u.cfg = t.cfg := by subst hu; cases st <;> rfl
  have huin : u.inbox = t.inbox := by subst hu; cases st <;> rfl
  have huleft : u.writesLeft = t.oneWriteLess := by subst hu; cases st <;> rfl
  have hgo2 : (t.checkStack a).writesGoOn = true := hgo
  have hudev : u.dev = { t.dev with viol := { t.dev.viol with
      writeProtect := t.dev.viol.writeProtect || t.physProtected (t.dataPhys a)
      stackLimit := t.dev.viol.stackLimit || (st && (t.stackChecked && stackOutside t.dev.mmu a)) } } := by
    subst hu; cases st
    · simp [State.memWrite, State.physWrite, State.noteWrite, hgo]
    · simp only [State.stackWrite, State.memWrite, State.physWrite, hgo2, if_true]; rfl
  have humem : u.mem = writeTargets t.mem v (t.dataTargets a) := by
    subst hu; cases st
    · simp [State.memWrite, State.physWrite, State.dataTargets, hgo]
    · simp only [State.stackWrite, State.memWrite, State.physWrite, hgo2, if_true]; rfl
  obtain ⟨p1, p2, p3, p5⟩ := State.phys_congr hcfg hcpu hmmu huser
  refine ⟨hucpu.trans hcpu, ⟨hucfg.trans hcfg, huin.trans hin, ?_, ?_, ?_, ?_⟩, ?_⟩
  · rw [huleft, State.oneWriteLess_of_none (hleft.trans hl), hl]
  · rw [hudev, p3, p1, p5, hmmu]
    rw [hdev]
    cases st <;> simp [Bool.or_assoc, Bool.and_or_distrib_left]
  · intro k hk
    simp only [List.flatMap_append, List.mem_append, not_or, List.flatMap_cons, List.flatMap_nil, List.append_nil] at hk
    rw [humem, p2, cellRead_writeTargets_other _ _ _ hk.2]
    exact hsame k hk.1
  · intro hw hnd w hmem c hc
    simp only [List.flatMap_append, List.flatMap_cons, List.flatMap_nil, List.append_nil] at hnd
    rw [List.nodup_append] at hnd
    obtain ⟨n1, n3, n2⟩ := hnd
    rw [humem, p2]
    rcases List.mem_append.1 hmem with hmem | hmem
    · have hin1 : c.1 ∈ ws.flatMap fun w => s.dataCells w.1 := List.mem_flatMap.2 ⟨w, hmem, List.mem_map_of_mem hc⟩
      have hne : c.1 ∉ (s.dataTargets a).map Prod.fst := fun h => n2 _ hin1 _ h rfl
      rw [cellRead_writeTargets_other _ _ _ hne]
      exact hval hw n1 w hmem c hc
    · simp only [List.mem_singleton] at hmem; subst hmem
      have hlt : ∀ x ∈ s.dataTargets a, x.1 < cellCount := s.physTargets_lt _ _
      rw [cellRead_writeTargets v _ (hwf hw) hlt n3 c hc]
      split
      · rfl
      · refine hsame _ fun h => ?_
        exact n2 _ h _ (List.mem_map_of_mem hc) rfl
  · intro hw
    rw [humem, p2]
    exact wf_writeTargets _ _ (hwf hw) (s.physTargets_lt _ _)

/-- An instruction that wrote these bytes and then changed the CPU completes as a store. -/
theorem Wrote.completes {s t : State} {st ws} (h : Wrote s t st ws) {i : Instr} {c c' : Cpu}
    (ht : exec i s = .next { t with cpu := c' }) (hc : c' = c.retire (privileged i)) : CompletesStore i s st ws c := by
  subst hc
  exact fun _ => ⟨_, ht, rfl, h.ma⟩

/-- One more data write. -/
theorem Wrote.data {s t : State} {ws : List (Word × Byte)} (hl : s.writesLeft = none) (h : Wrote s t false ws) (a : Word)
    (v : Byte) : Wrote s (t.memWrite a v) false (ws ++ [(a, v)]) := h.write hl a v rfl

/-- One more stack write. -/
theorem Wrote.stack {s t : State} {ws : List (Word × Byte)} (hl : s.writesLeft = none) (h : Wrote s t true ws) (a : Word)
    (v : Byte) : Wrote s (t.stackWrite a v) true (ws ++ [(a, v)]) := h.write hl a v rfl

/-- One data write. -/
theorem Wrote.one {s : State} (hl : s.writesLeft = none) (a v) : Wrote s (s.memWrite a v) false [(a, v)] :=
  (Wrote.nothing s false).data hl a v

/-- Two data writes. -/
theorem Wrote.two {s : State} (hl : s.writesLeft = none) (a v b w) :
    Wrote s ((s.memWrite a v).memWrite b w) false [(a, v), (b, w)] := (Wrote.one hl a v).data hl b w

/-- One stack write. -/
theorem Wrote.stackOne {s : State} (hl : s.writesLeft = none) (a v) : Wrote s (s.stackWrite a v) true [(a, v)] :=
  (Wrote.nothing s true).stack hl a v

/-- Two stack writes. -/
theorem Wrote.stackTwo {s : State} (hl : s.writesLeft = none) (a v b w) :
    Wrote s ((s.stackWrite a v).stackWrite b w) true [(a, v), (b, w)] := (Wrote.stackOne hl a v).stack hl b w

/-- Three stack writes. -/
theorem Wrote.stackThree {s : State} (hl : s.writesLeft = none) (a v b w c x) :
    Wrote s (((s.stackWrite a v).stackWrite b w).stackWrite c x) true [(a, v), (b, w), (c, x)] :=
  (Wrote.stackTwo hl a v b w).stack hl c x

/-- A data read changes only the count of free values. -/
theorem State.memRead_state (s : State) (a : Word) : (s.memRead a).2 = { s with dev := { s.dev with free := (s.memRead a).2.dev.free } } := by
  rcases s.physRead_spec (inXpcWindow s.dev.mmu a) (s.dataPhys a) with h | h <;> (unfold State.memRead; rw [h])

/-- The byte a stack read gives. -/
theorem State.stackRead_fst (s : State) (a : Word) : (s.stackRead a).1 = s.peek a := rfl

/-- A stack read: the state of the data read, and the stack-limit request. -/
theorem State.stackRead_state (s : State) (a : Word) : ∃ n, (s.stackRead a).2 = { s with dev := { s.dev with free := n, viol := { s.dev.viol with stackLimit := s.dev.viol.stackLimit || (s.stackChecked && stackOutside s.dev.mmu a) } } } ∧ (s.memRead a).2 = { s with dev := { s.dev with free := n } } := by
  unfold State.stackRead
  have h := State.memRead_state (s.checkStack a) a
  have h2 := State.memRead_state s a
  refine ⟨(s.memRead a).2.dev.free, ?_, h2⟩
  rw [h]
  have : ((s.checkStack a).memRead a).2.dev.free = (s.memRead a).2.dev.free := by
    unfold State.memRead State.physRead
    have hd : (s.checkStack a).physDriven (inXpcWindow (s.checkStack a).dev.mmu a) ((s.checkStack a).dataPhys a) = s.physDriven (inXpcWindow s.dev.mmu a) (s.dataPhys a) := rfl
    simp only [hd]; split <;> rfl
  rw [this]; rfl

/-- The state with this count of free values and this stack-limit request. -/
def State.withStackRequest (s : State) (n : Nat) (b : Bool) : State := { s with dev := { s.dev with free := n, viol := { s.dev.viol with stackLimit := b } } }

/-- A stack-limit request changes no byte read. -/
theorem State.peek_withStackRequest (s : State) (n b) (a : Word) : (State.withStackRequest s n b).peek a = ({ s with dev := { s.dev with free := n } } : State).peek a := rfl

/-- `t` is `s` after stack reads whose data reads alone give `u`, any of them outside the limits being `bs`. -/
structure StackReads (s u t : State) (bs : Bool) : Prop where
  t : ∃ n, t = State.withStackRequest s n (s.dev.viol.stackLimit || (s.stackChecked && bs)) ∧ u = { s with dev := { s.dev with free := n } }

/-- No read. -/
theorem StackReads.nil (s : State) : StackReads s s s false := ⟨s.dev.free, by simp [State.withStackRequest], rfl⟩

/-- One more stack read. -/
theorem StackReads.read {s u t bs} (h : StackReads s u t bs) (a : Word) : (t.stackRead a).1 = u.peek a ∧ StackReads s (u.memRead a).2 (t.stackRead a).2 (bs || stackOutside s.dev.mmu a) := by
  obtain ⟨n, rfl, rfl⟩ := h
  refine ⟨rfl, ?_⟩
  obtain ⟨m, h1, h2⟩ := State.stackRead_state (State.withStackRequest s n (s.dev.viol.stackLimit || (s.stackChecked && bs))) a
  have h3 : ((({ s with dev := { s.dev with free := n } } : State).memRead a).2) = { s with dev := { s.dev with free := m } } := by
    have := congrArg (fun x : State => x.dev.free) h2
    simp only at this
    rw [State.memRead_state]
    have e : (State.memRead { s with dev := { s.dev with free := n } } a).2.dev.free = m := by
      rw [← this]
      unfold State.memRead State.physRead
      have hd : (State.withStackRequest s n (s.dev.viol.stackLimit || (s.stackChecked && bs))).physDriven (inXpcWindow (State.withStackRequest s n (s.dev.viol.stackLimit || (s.stackChecked && bs))).dev.mmu a) ((State.withStackRequest s n (s.dev.viol.stackLimit || (s.stackChecked && bs))).dataPhys a) = ({ s with dev := { s.dev with free := n } } : State).physDriven (inXpcWindow s.dev.mmu a) (({ s with dev := { s.dev with free := n } } : State).dataPhys a) := rfl
      simp only [hd]; split <;> rfl
    rw [e]
  refine ⟨m, ?_, h3⟩
  rw [h1]
  have hsc : (State.withStackRequest s n (s.dev.viol.stackLimit || (s.stackChecked && bs))).stackChecked = s.stackChecked := rfl
  rw [hsc]
  simp only [State.withStackRequest]
  rw [Bool.or_assoc, Bool.and_or_distrib_left]

/-- An instruction that made these stack reads and then changed the CPU completes as a pop. -/
theorem StackReads.completes {s u t bs} (h : StackReads s u t bs) {i : Instr} {as : List Word} {c' c : Cpu} (he : exec i s = .next { t with cpu := c' }) (hc : c' = c.retire (privileged i)) (hb : bs = as.any (stackOutside s.dev.mmu)) : CompletesPop i s as c := by
  obtain ⟨n, rfl, -⟩ := h
  subst hb hc
  exact ⟨n, he⟩

/-- Stack reads leave the CPU. -/
theorem StackReads.cpu {s u t bs} (h : StackReads s u t bs) : t.cpu = s.cpu ∧ u.cpu = s.cpu := by obtain ⟨n, rfl, rfl⟩ := h; exact ⟨rfl, rfl⟩

/-- A result and its flags, as `dstCpuF` says it. -/
theorem State.onDst_onFlags (s : State) (k : RegSet → RegSet) (g : Byte → Byte) (hk : ∀ x, (k x).f = x.f) :
   (s.onDst k).onFlags g = { s with cpu := dstCpuF s.cpu k (g (dstF s.cpu)) } := by
  rw [State.onDst_state]; exact State.onFlags_of_dstCpu s g k hk

/-- Writing one of the seven byte registers leaves F. -/
theorem RegSet.setR8_f (r : R8) (v : Byte) (x : RegSet) : (x.setR8 r v).f = x.f := by cases r <;> rfl

/-- A word read from the stack. -/
theorem State.stackRead16_eq (s : State) (a : Word) : ∃ m, s.stackRead16 a = (word (s.peekAfter [a] (a+1)) (s.peek a), State.withStackRequest s m (s.dev.viol.stackLimit || (s.stackChecked && [a, a+1].any (stackOutside s.dev.mmu)))) := by
    have r1 := (StackReads.nil s).read a
    have r2 := r1.2.read (a+1)
    obtain ⟨m, h2, h3⟩ := r2.2
    refine ⟨m, ?_⟩
    simp only [List.any_cons, List.any_nil, Bool.or_false]
    simp only [Bool.false_or] at h2
    rw [← h2]
    unfold State.stackRead16
    simp only [Prod.mk.injEq]
    refine ⟨?_, trivial⟩
    rw [r1.1, r2.1]; rfl

/-- Stack writes after reads at the same addresses. -/
theorem Wrote.ofStackReads {s t : State} {n : Nat} {ws : List (Word × Byte)} (h : Wrote (State.withStackRequest s n (s.dev.viol.stackLimit || (s.stackChecked && ws.any fun w => stackOutside s.dev.mmu w.1))) t true ws) : Wrote s t true ws := by
  obtain ⟨hcpu, ⟨hcfg, hin, hl, hdev, hsame, hval⟩, hwf⟩ := h
  refine ⟨hcpu, ⟨hcfg, hin, hl, ?_, hsame, hval⟩, hwf⟩
  rw [hdev]
  have h1 : ∀ p, (State.withStackRequest s n (s.dev.viol.stackLimit || (s.stackChecked && ws.any fun w => stackOutside s.dev.mmu w.1))).physProtected ((State.withStackRequest s n (s.dev.viol.stackLimit || (s.stackChecked && ws.any fun w => stackOutside s.dev.mmu w.1))).dataPhys p) = s.physProtected (s.dataPhys p) := fun _ => rfl
  have h2 : (State.withStackRequest s n (s.dev.viol.stackLimit || (s.stackChecked && ws.any fun w => stackOutside s.dev.mmu w.1))).stackChecked = s.stackChecked := rfl
  simp only [h1, h2]
  simp only [State.withStackRequest, Bool.or_assoc, Bool.true_and, Bool.or_self]

/-- Writes after a free value was drawn. -/
theorem Wrote.ofDraw {s t : State} {n : Nat} {st} {ws : List (Word × Byte)} (h : Wrote { s with dev := { s.dev with free := n } } t st ws) : Wrote s t st ws := by
  exact ⟨h.cpu, h.ma, h.wf⟩

/-- A load changes the devices only. -/
theorem State.load8_state (s : State) (a : Word) : (s.load8 a).2 = { s with dev := (s.load8 a).2.dev } := by
  unfold State.load8
  split
  · show (s.memRead a).2 = _
    rw [State.memRead_state]
  · rfl
  · rfl

end Sys2Proof.Machine
end

