-- ==== Sys2Proof/Laws/Decode.lean ====
section
/-! SUPPORT. Laws of the decoder's parts: the select codes, the byte order of constants, the reading of operand bytes. -/
namespace Sys2Proof
open Sys2Proof.Machine

@[simp] theorem R8.ofCode_code (r : R8) : R8.ofCode r.code = some r := by cases r <;> rfl
@[simp] theorem SS.ofCode_code (r : SS) : SS.ofCode r.code = r := by cases r <;> rfl
@[simp] theorem DDa.ofCode_code (r : DDa) : DDa.ofCode r.code = some r := by cases r <;> rfl
@[simp] theorem XX.ofCode_code (r : XX) : XX.ofCode r.code = r := by cases r <;> rfl
@[simp] theorem YY.ofCode_code (r : YY) : YY.ofCode r.code = r := by cases r <;> rfl
@[simp] theorem ZZ.ofCode_code (r : ZZ) : ZZ.ofCode r.code = r := by cases r <;> rfl
@[simp] theorem Cond.ofCode_code (r : Cond) : Cond.ofCode r.code = r := by cases r <;> rfl
@[simp] theorem CC.ofCode_code (r : CC) : CC.ofCode r.code = r := by cases r <;> rfl
@[simp] theorem RstV.ofCode_code (r : RstV) : RstV.ofCode r.code = some r := by cases r <;> rfl

/-- A register code that answers is that register's. -/
theorem R8.code_ofCode {c : BitVec 3} {r : R8} (h : R8.ofCode c = some r) : r.code = c := by
  revert h; revert r; revert c; decide

/-- A word put together from its two bytes is the word. -/
@[simp] theorem word_hi_lo (w : Word) : word (hiByte w) (loByte w) = w := by
  apply BitVec.eq_of_toNat_eq
  have h := w.isLt
  simp only [word, hiByte, loByte, BitVec.toNat_append, BitVec.extractLsb'_toNat, Nat.shiftRight_zero]
  rw [Nat.shiftLeft_eq, Nat.shiftRight_eq_div_pow, Nat.mul_comm, ← Nat.two_pow_add_eq_or_of_lt (Nat.mod_lt _ (by decide))]
  omega

@[simp] theorem hiByte_word (h l : Byte) : hiByte (word h l) = h := by
  apply BitVec.eq_of_getLsbD_eq
  intro i hi
  simp only [hiByte, word, BitVec.getLsbD_extractLsb', BitVec.getLsbD_append, hi]
  simp

@[simp] theorem loByte_word (h l : Byte) : loByte (word h l) = l := by
  apply BitVec.eq_of_getLsbD_eq
  intro i hi
  simp only [loByte, word, BitVec.getLsbD_extractLsb', BitVec.getLsbD_append]
  simp [hi]

/-- What reading the operand bytes of a form gives. -/
@[simp] theorem Form.read_done (i : Instr) (rest : List Byte) : (Form.done i).read rest = .ok (i, rest) := by
  cases rest <;> rfl

@[simp] theorem Form.read_imm8 (k : Byte → Instr) (n : Byte) (rest : List Byte) :
    (Form.imm8 k).read (n :: rest) = .ok (k n, rest) := rfl

@[simp] theorem Form.read_imm16 (k : Word → Instr) (w : Word) (rest : List Byte) :
    (Form.imm16 k).read (loByte w :: hiByte w :: rest) = .ok (k w, rest) := by
  simp [Form.read]

@[simp] theorem Form.read_disp8imm8 (k : Byte → Byte → Instr) (d n : Byte) (rest : List Byte) :
    (Form.disp8imm8 k).read (d :: n :: rest) = .ok (k d n, rest) := rfl

@[simp] theorem Form.read_imm16imm8 (k : Word → Byte → Instr) (w : Word) (x : Byte) (rest : List Byte) :
    (Form.imm16imm8 k).read (loByte w :: hiByte w :: x :: rest) = .ok (k w x, rest) := by
  simp [Form.read]

end Sys2Proof
end

