-- ==== Sys2Proof/Laws/Flags.lean ====
section
/-! SUPPORT. What the flag and arithmetic operations do, in the terms of the claims. -/
namespace Sys2Proof.Machine

/-- One bit of a byte after one bit is set. -/
theorem bit_setBit (x : Byte) (k j : Nat) (v : Bool) (hk : k < 8) : bit (setBit x k v) j = if j = k then v else bit x j := by
  simp only [bit, setBit]
  cases v <;> by_cases h : j = k <;> by_cases hj : j < 8 <;> simp_all

/-- What `putFlags` does to F. -/
theorem putFlags_flagsAre (x : FlagSet) (f : Byte) : FlagsAre f (putFlags x f) x.s x.z x.lv x.c := by
  simp [FlagsAre, SameUnused, putFlags, putSZV, flagS, flagZ, flagLv, flagC, bit_setBit]

/-- What `putC` does to F. -/
theorem putC_flagsC (c : Bool) (f : Byte) : FlagsC f (putC c f) c := by
  simp [FlagsC, FlagsAre, SameUnused, putC, flagS, flagZ, flagLv, flagC, bit_setBit]

/-- What `putZ` does to F. -/
theorem putZ_flagsZ (c : Bool) (f : Byte) : FlagsZ f (putZ c f) c := by
  simp [FlagsZ, FlagsAre, SameUnused, putZ, flagS, flagZ, flagLv, flagC, bit_setBit]

/-- What `putLv` does to F. -/
theorem putLv_flagsAre (c : Bool) (f : Byte) : FlagsAre f (putLv c f) (flagS f) (flagZ f) c (flagC f) := by
  simp [FlagsAre, SameUnused, putLv, flagS, flagZ, flagLv, flagC, bit_setBit]

/-- What `putSZ` does to F. -/
theorem putSZ_flagsAre (s z : Bool) (f : Byte) : FlagsAre f (putSZ s z f) s z (flagLv f) (flagC f) := by
  simp [FlagsAre, SameUnused, putSZ, flagS, flagZ, flagLv, flagC, bit_setBit]

/-- What `putSZV` does to F. -/
theorem putSZV_flagsSzv (x : FlagSet) (f : Byte) : FlagsSzv f (putSZV x f) x.s x.z x.lv := by
  simp [FlagsSzv, FlagsAre, SameUnused, putSZV, flagS, flagZ, flagLv, flagC, bit_setBit]

/-- A 16-bit sum, over the integers. -/
theorem addFlags_sum16 (x y : Word) (c : Bool) : (addFlags x y c).1 = BitVec.ofNat 16 (x.toNat + y.toNat + c.toNat) := by
  apply BitVec.eq_of_toNat_eq; cases c <;> simp [addFlags, bit1] 

/-- An 8-bit sum, over the integers. -/
theorem addFlags_sum8 (x y : Byte) (c : Bool) : (addFlags x y c).1 = BitVec.ofNat 8 (x.toNat + y.toNat + c.toNat) := by
  apply BitVec.eq_of_toNat_eq; cases c <;> simp [addFlags, bit1]

/-- A 16-bit difference, over the integers. -/
theorem subFlags_difference16 (x y : Word) (c : Bool) : (subFlags x y c).1 = BitVec.ofInt 16 ((x.toNat : Int) - y.toNat - c.toNat) := by
  apply BitVec.eq_of_toNat_eq; cases c <;> simp [subFlags, bit1, BitVec.toNat_ofInt] <;> omega

/-- An 8-bit difference, over the integers. -/
theorem subFlags_difference8 (x y : Byte) (c : Bool) : (subFlags x y c).1 = BitVec.ofInt 8 ((x.toNat : Int) - y.toNat - c.toNat) := by
  apply BitVec.eq_of_toNat_eq; cases c <;> simp [subFlags, bit1, BitVec.toNat_ofInt] <;> omega

/-- Overflow of a 16-bit sum, by the signs. -/
theorem addFlags_overflow16 (x y : Word) (c : Bool) : (addFlags x y c).2.lv = (x.msb == y.msb && (addFlags x y c).1.msb != x.msb) := by
  rw [addFlags_sum16, Bool.eq_iff_iff]
  simp only [addFlags, outside, BitVec.toInt_eq_toNat_cond, BitVec.msb_eq_decide, BitVec.toNat_ofNat]
  have := x.isLt; have := y.isLt; have : c.toNat ≤ 1 := by cases c <;> decide
  simp only [Bool.or_eq_true, decide_eq_true_eq, Bool.and_eq_true, beq_iff_eq, bne_iff_ne, ne_eq, decide_eq_decide]
  split <;> split <;> omega

/-- Overflow of an 8-bit sum, by the signs. -/
theorem addFlags_overflow8 (x y : Byte) (c : Bool) : (addFlags x y c).2.lv = (x.msb == y.msb && (addFlags x y c).1.msb != x.msb) := by
  rw [addFlags_sum8, Bool.eq_iff_iff]
  simp only [addFlags, outside, BitVec.toInt_eq_toNat_cond, BitVec.msb_eq_decide, BitVec.toNat_ofNat]
  have := x.isLt; have := y.isLt; have : c.toNat ≤ 1 := by cases c <;> decide
  simp only [Bool.or_eq_true, decide_eq_true_eq, Bool.and_eq_true, beq_iff_eq, bne_iff_ne, ne_eq, decide_eq_decide]
  split <;> split <;> omega

/-- Overflow of a 16-bit difference, by the signs. -/
theorem subFlags_overflow16 (x y : Word) (c : Bool) : (subFlags x y c).2.lv = (x.msb != y.msb && (subFlags x y c).1.msb != x.msb) := by
  rw [subFlags_difference16, Bool.eq_iff_iff]
  simp only [subFlags, outside, BitVec.toInt_eq_toNat_cond, BitVec.msb_eq_decide, BitVec.toNat_ofInt]
  have := x.isLt; have := y.isLt; have : c.toNat ≤ 1 := by cases c <;> decide
  simp only [Bool.or_eq_true, decide_eq_true_eq, Bool.and_eq_true, bne_iff_ne, ne_eq, decide_eq_decide]
  split <;> split <;> omega

/-- Overflow of an 8-bit difference, by the signs. -/
theorem subFlags_overflow8 (x y : Byte) (c : Bool) : (subFlags x y c).2.lv = (x.msb != y.msb && (subFlags x y c).1.msb != x.msb) := by
  rw [subFlags_difference8, Bool.eq_iff_iff]
  simp only [subFlags, outside, BitVec.toInt_eq_toNat_cond, BitVec.msb_eq_decide, BitVec.toNat_ofInt]
  have := x.isLt; have := y.isLt; have : c.toNat ≤ 1 := by cases c <;> decide
  simp only [Bool.or_eq_true, decide_eq_true_eq, Bool.and_eq_true, bne_iff_ne, ne_eq, decide_eq_decide]
  split <;> split <;> omega

/-- The logical check of a word, by its value. -/
theorem topBits_word (x : Word) : topBits x = decide (4096 ≤ x.toNat) := by
  simp only [topBits, decide_eq_decide]
  have h : (x.extractLsb' (16 - 4) 4).toNat = x.toNat / 4096 := by
    simp [BitVec.extractLsb'_toNat, Nat.shiftRight_eq_div_pow]; have := x.isLt; omega
  rw [ne_eq, ← BitVec.toNat_inj, h]; simp

/-- The logical check of a byte, by its value. -/
theorem topBits_byte (x : Byte) : topBits x = decide (16 ≤ x.toNat) := by revert x; decide

end Sys2Proof.Machine
end

