-- ==== Sys2Proof/Laws/PerInstr.lean ====
section
/-! SUPPORT. Statements made per instruction, and one lemma per constructor. -/
namespace Sys2Proof.Laws.Length
open Sys2Proof

/-- A well-formed instruction's encoding has one to four bytes (`30_encoding.md` R120), so the fetch of `maxLength` bytes holds it. -/
def Statement (i : Instr) : Prop := ∀ (rev : Rev) (ops : OpcodeMap), WellFormed rev ops i = true →
  1 ≤ (encode ops i).length ∧ (encode ops i).length ≤ maxLength

/-- An added instruction has its two bytes wherever the map names it. -/
theorem of_added {i : Instr} {n : Added} (ha : i.added = some n) (h3 : i.only3000A = true)
    (he : ∀ ops, encode ops i = OpcodeMap.bytes ops n) : Statement i := by
  intro rev ops h
  cases rev with
  | r3000 => simp [WellFormed, h3] at h
  | r3000A =>
    simp only [WellFormed, Bool.and_eq_true, OpcodeMap.names, ha] at h
    obtain ⟨b, hb⟩ := Option.isSome_iff_exists.1 h.2
    rw [he, OpcodeMap.bytes, hb]
    exact ⟨Nat.le_of_ble_eq_true rfl, Nat.le_of_ble_eq_true rfl⟩

theorem ldIxMn (mn : Word) : Statement (.ldIxMn mn) := fun _ _ _ => ⟨Nat.le_of_ble_eq_true rfl, Nat.le_of_ble_eq_true rfl⟩
theorem ldIyMn (mn : Word) : Statement (.ldIyMn mn) := fun _ _ _ => ⟨Nat.le_of_ble_eq_true rfl, Nat.le_of_ble_eq_true rfl⟩
theorem ldDdMn (dd : SS) (mn : Word) : Statement (.ldDdMn dd mn) := fun _ _ _ => ⟨Nat.le_of_ble_eq_true rfl, Nat.le_of_ble_eq_true rfl⟩
theorem ldRN (r : R8) (n : Byte) : Statement (.ldRN r n) := fun _ _ _ => ⟨Nat.le_of_ble_eq_true rfl, Nat.le_of_ble_eq_true rfl⟩
theorem ldAtMnA (mn : Word) : Statement (.ldAtMnA mn) := fun _ _ _ => ⟨Nat.le_of_ble_eq_true rfl, Nat.le_of_ble_eq_true rfl⟩
theorem ldAAtMn (mn : Word) : Statement (.ldAAtMn mn) := fun _ _ _ => ⟨Nat.le_of_ble_eq_true rfl, Nat.le_of_ble_eq_true rfl⟩
theorem ldAtMnHl (mn : Word) : Statement (.ldAtMnHl mn) := fun _ _ _ => ⟨Nat.le_of_ble_eq_true rfl, Nat.le_of_ble_eq_true rfl⟩
theorem ldAtMnIx (mn : Word) : Statement (.ldAtMnIx mn) := fun _ _ _ => ⟨Nat.le_of_ble_eq_true rfl, Nat.le_of_ble_eq_true rfl⟩
theorem ldAtMnIy (mn : Word) : Statement (.ldAtMnIy mn) := fun _ _ _ => ⟨Nat.le_of_ble_eq_true rfl, Nat.le_of_ble_eq_true rfl⟩
theorem ldAtMnSs (mn : Word) (ss : SS) : Statement (.ldAtMnSs mn ss) := fun _ _ _ => ⟨Nat.le_of_ble_eq_true rfl, Nat.le_of_ble_eq_true rfl⟩
theorem ldHlAtMn (mn : Word) : Statement (.ldHlAtMn mn) := fun _ _ _ => ⟨Nat.le_of_ble_eq_true rfl, Nat.le_of_ble_eq_true rfl⟩
theorem ldIxAtMn (mn : Word) : Statement (.ldIxAtMn mn) := fun _ _ _ => ⟨Nat.le_of_ble_eq_true rfl, Nat.le_of_ble_eq_true rfl⟩
theorem ldIyAtMn (mn : Word) : Statement (.ldIyAtMn mn) := fun _ _ _ => ⟨Nat.le_of_ble_eq_true rfl, Nat.le_of_ble_eq_true rfl⟩
theorem ldDdAtMn (dd : SS) (mn : Word) : Statement (.ldDdAtMn dd mn) := fun _ _ _ => ⟨Nat.le_of_ble_eq_true rfl, Nat.le_of_ble_eq_true rfl⟩
theorem ldAAtBc : Statement .ldAAtBc := fun _ _ _ => ⟨Nat.le_of_ble_eq_true rfl, Nat.le_of_ble_eq_true rfl⟩
theorem ldAAtDe : Statement .ldAAtDe := fun _ _ _ => ⟨Nat.le_of_ble_eq_true rfl, Nat.le_of_ble_eq_true rfl⟩
theorem ldAtBcA : Statement .ldAtBcA := fun _ _ _ => ⟨Nat.le_of_ble_eq_true rfl, Nat.le_of_ble_eq_true rfl⟩
theorem ldAtDeA : Statement .ldAtDeA := fun _ _ _ => ⟨Nat.le_of_ble_eq_true rfl, Nat.le_of_ble_eq_true rfl⟩
theorem ldAtHlN (n : Byte) : Statement (.ldAtHlN n) := fun _ _ _ => ⟨Nat.le_of_ble_eq_true rfl, Nat.le_of_ble_eq_true rfl⟩
theorem ldAtHlR (r : R8) : Statement (.ldAtHlR r) := fun _ _ _ => ⟨Nat.le_of_ble_eq_true rfl, Nat.le_of_ble_eq_true rfl⟩
theorem ldRAtHl (r : R8) : Statement (.ldRAtHl r) := fun _ _ _ => ⟨Nat.le_of_ble_eq_true rfl, Nat.le_of_ble_eq_true rfl⟩
theorem ldAtIxDN (d : Byte) (n : Byte) : Statement (.ldAtIxDN d n) := fun _ _ _ => ⟨Nat.le_of_ble_eq_true rfl, Nat.le_of_ble_eq_true rfl⟩
theorem ldAtIxDR (d : Byte) (r : R8) : Statement (.ldAtIxDR d r) := fun _ _ _ => ⟨Nat.le_of_ble_eq_true rfl, Nat.le_of_ble_eq_true rfl⟩
theorem ldRAtIxD (r : R8) (d : Byte) : Statement (.ldRAtIxD r d) := fun _ _ _ => ⟨Nat.le_of_ble_eq_true rfl, Nat.le_of_ble_eq_true rfl⟩
theorem ldAtIyDN (d : Byte) (n : Byte) : Statement (.ldAtIyDN d n) := fun _ _ _ => ⟨Nat.le_of_ble_eq_true rfl, Nat.le_of_ble_eq_true rfl⟩
theorem ldAtIyDR (d : Byte) (r : R8) : Statement (.ldAtIyDR d r) := fun _ _ _ => ⟨Nat.le_of_ble_eq_true rfl, Nat.le_of_ble_eq_true rfl⟩
theorem ldRAtIyD (r : R8) (d : Byte) : Statement (.ldRAtIyD r d) := fun _ _ _ => ⟨Nat.le_of_ble_eq_true rfl, Nat.le_of_ble_eq_true rfl⟩
theorem ldAtHlDHl (d : Byte) : Statement (.ldAtHlDHl d) := fun _ _ _ => ⟨Nat.le_of_ble_eq_true rfl, Nat.le_of_ble_eq_true rfl⟩
theorem ldHlAtHlD (d : Byte) : Statement (.ldHlAtHlD d) := fun _ _ _ => ⟨Nat.le_of_ble_eq_true rfl, Nat.le_of_ble_eq_true rfl⟩
theorem ldAtSpNHl (n : Byte) : Statement (.ldAtSpNHl n) := fun _ _ _ => ⟨Nat.le_of_ble_eq_true rfl, Nat.le_of_ble_eq_true rfl⟩
theorem ldAtSpNIx (n : Byte) : Statement (.ldAtSpNIx n) := fun _ _ _ => ⟨Nat.le_of_ble_eq_true rfl, Nat.le_of_ble_eq_true rfl⟩
theorem ldAtSpNIy (n : Byte) : Statement (.ldAtSpNIy n) := fun _ _ _ => ⟨Nat.le_of_ble_eq_true rfl, Nat.le_of_ble_eq_true rfl⟩
theorem ldHlAtSpN (n : Byte) : Statement (.ldHlAtSpN n) := fun _ _ _ => ⟨Nat.le_of_ble_eq_true rfl, Nat.le_of_ble_eq_true rfl⟩
theorem ldIxAtSpN (n : Byte) : Statement (.ldIxAtSpN n) := fun _ _ _ => ⟨Nat.le_of_ble_eq_true rfl, Nat.le_of_ble_eq_true rfl⟩
theorem ldIyAtSpN (n : Byte) : Statement (.ldIyAtSpN n) := fun _ _ _ => ⟨Nat.le_of_ble_eq_true rfl, Nat.le_of_ble_eq_true rfl⟩
theorem ldAtIxDHl (d : Byte) : Statement (.ldAtIxDHl d) := fun _ _ _ => ⟨Nat.le_of_ble_eq_true rfl, Nat.le_of_ble_eq_true rfl⟩
theorem ldHlAtIxD (d : Byte) : Statement (.ldHlAtIxD d) := fun _ _ _ => ⟨Nat.le_of_ble_eq_true rfl, Nat.le_of_ble_eq_true rfl⟩
theorem ldAtIyDHl (d : Byte) : Statement (.ldAtIyDHl d) := fun _ _ _ => ⟨Nat.le_of_ble_eq_true rfl, Nat.le_of_ble_eq_true rfl⟩
theorem ldHlAtIyD (d : Byte) : Statement (.ldHlAtIyD d) := fun _ _ _ => ⟨Nat.le_of_ble_eq_true rfl, Nat.le_of_ble_eq_true rfl⟩
theorem ldpAtHlHl : Statement .ldpAtHlHl := fun _ _ _ => ⟨Nat.le_of_ble_eq_true rfl, Nat.le_of_ble_eq_true rfl⟩
theorem ldpAtIxHl : Statement .ldpAtIxHl := fun _ _ _ => ⟨Nat.le_of_ble_eq_true rfl, Nat.le_of_ble_eq_true rfl⟩
theorem ldpAtIyHl : Statement .ldpAtIyHl := fun _ _ _ => ⟨Nat.le_of_ble_eq_true rfl, Nat.le_of_ble_eq_true rfl⟩
theorem ldpHlAtHl : Statement .ldpHlAtHl := fun _ _ _ => ⟨Nat.le_of_ble_eq_true rfl, Nat.le_of_ble_eq_true rfl⟩
theorem ldpHlAtIx : Statement .ldpHlAtIx := fun _ _ _ => ⟨Nat.le_of_ble_eq_true rfl, Nat.le_of_ble_eq_true rfl⟩
theorem ldpHlAtIy : Statement .ldpHlAtIy := fun _ _ _ => ⟨Nat.le_of_ble_eq_true rfl, Nat.le_of_ble_eq_true rfl⟩
theorem ldpAtMnHl (mn : Word) : Statement (.ldpAtMnHl mn) := fun _ _ _ => ⟨Nat.le_of_ble_eq_true rfl, Nat.le_of_ble_eq_true rfl⟩
theorem ldpAtMnIx (mn : Word) : Statement (.ldpAtMnIx mn) := fun _ _ _ => ⟨Nat.le_of_ble_eq_true rfl, Nat.le_of_ble_eq_true rfl⟩
theorem ldpAtMnIy (mn : Word) : Statement (.ldpAtMnIy mn) := fun _ _ _ => ⟨Nat.le_of_ble_eq_true rfl, Nat.le_of_ble_eq_true rfl⟩
theorem ldpHlAtMn (mn : Word) : Statement (.ldpHlAtMn mn) := fun _ _ _ => ⟨Nat.le_of_ble_eq_true rfl, Nat.le_of_ble_eq_true rfl⟩
theorem ldpIxAtMn (mn : Word) : Statement (.ldpIxAtMn mn) := fun _ _ _ => ⟨Nat.le_of_ble_eq_true rfl, Nat.le_of_ble_eq_true rfl⟩
theorem ldpIyAtMn (mn : Word) : Statement (.ldpIyAtMn mn) := fun _ _ _ => ⟨Nat.le_of_ble_eq_true rfl, Nat.le_of_ble_eq_true rfl⟩
theorem ldRG (r : R8) (g : R8) : Statement (.ldRG r g) := fun _ _ _ => ⟨Nat.le_of_ble_eq_true rfl, Nat.le_of_ble_eq_true rfl⟩
theorem ldAEir : Statement .ldAEir := fun _ _ _ => ⟨Nat.le_of_ble_eq_true rfl, Nat.le_of_ble_eq_true rfl⟩
theorem ldAIir : Statement .ldAIir := fun _ _ _ => ⟨Nat.le_of_ble_eq_true rfl, Nat.le_of_ble_eq_true rfl⟩
theorem ldAXpc : Statement .ldAXpc := fun _ _ _ => ⟨Nat.le_of_ble_eq_true rfl, Nat.le_of_ble_eq_true rfl⟩
theorem ldEirA : Statement .ldEirA := fun _ _ _ => ⟨Nat.le_of_ble_eq_true rfl, Nat.le_of_ble_eq_true rfl⟩
theorem ldIirA : Statement .ldIirA := fun _ _ _ => ⟨Nat.le_of_ble_eq_true rfl, Nat.le_of_ble_eq_true rfl⟩
theorem ldXpcA : Statement .ldXpcA := fun _ _ _ => ⟨Nat.le_of_ble_eq_true rfl, Nat.le_of_ble_eq_true rfl⟩
theorem ldHlIx : Statement .ldHlIx := fun _ _ _ => ⟨Nat.le_of_ble_eq_true rfl, Nat.le_of_ble_eq_true rfl⟩
theorem ldHlIy : Statement .ldHlIy := fun _ _ _ => ⟨Nat.le_of_ble_eq_true rfl, Nat.le_of_ble_eq_true rfl⟩
theorem ldIxHl : Statement .ldIxHl := fun _ _ _ => ⟨Nat.le_of_ble_eq_true rfl, Nat.le_of_ble_eq_true rfl⟩
theorem ldIyHl : Statement .ldIyHl := fun _ _ _ => ⟨Nat.le_of_ble_eq_true rfl, Nat.le_of_ble_eq_true rfl⟩
theorem ldSpHl : Statement .ldSpHl := fun _ _ _ => ⟨Nat.le_of_ble_eq_true rfl, Nat.le_of_ble_eq_true rfl⟩
theorem ldSpIx : Statement .ldSpIx := fun _ _ _ => ⟨Nat.le_of_ble_eq_true rfl, Nat.le_of_ble_eq_true rfl⟩
theorem ldSpIy : Statement .ldSpIy := fun _ _ _ => ⟨Nat.le_of_ble_eq_true rfl, Nat.le_of_ble_eq_true rfl⟩
theorem ldDdaBc (dd : DDa) : Statement (.ldDdaBc dd) := fun _ _ _ => ⟨Nat.le_of_ble_eq_true rfl, Nat.le_of_ble_eq_true rfl⟩
theorem ldDdaDe (dd : DDa) : Statement (.ldDdaDe dd) := fun _ _ _ => ⟨Nat.le_of_ble_eq_true rfl, Nat.le_of_ble_eq_true rfl⟩
theorem exAtSpHl : Statement .exAtSpHl := fun _ _ _ => ⟨Nat.le_of_ble_eq_true rfl, Nat.le_of_ble_eq_true rfl⟩
theorem exAtSpIx : Statement .exAtSpIx := fun _ _ _ => ⟨Nat.le_of_ble_eq_true rfl, Nat.le_of_ble_eq_true rfl⟩
theorem exAtSpIy : Statement .exAtSpIy := fun _ _ _ => ⟨Nat.le_of_ble_eq_true rfl, Nat.le_of_ble_eq_true rfl⟩
theorem exAfAfa : Statement .exAfAfa := fun _ _ _ => ⟨Nat.le_of_ble_eq_true rfl, Nat.le_of_ble_eq_true rfl⟩
theorem exDeaHl : Statement .exDeaHl := fun _ _ _ => ⟨Nat.le_of_ble_eq_true rfl, Nat.le_of_ble_eq_true rfl⟩
theorem exDeaHla : Statement .exDeaHla := fun _ _ _ => ⟨Nat.le_of_ble_eq_true rfl, Nat.le_of_ble_eq_true rfl⟩
theorem exDeHl : Statement .exDeHl := fun _ _ _ => ⟨Nat.le_of_ble_eq_true rfl, Nat.le_of_ble_eq_true rfl⟩
theorem exDeHla : Statement .exDeHla := fun _ _ _ => ⟨Nat.le_of_ble_eq_true rfl, Nat.le_of_ble_eq_true rfl⟩
theorem exx : Statement .exx := fun _ _ _ => ⟨Nat.le_of_ble_eq_true rfl, Nat.le_of_ble_eq_true rfl⟩
theorem popIp : Statement .popIp := fun _ _ _ => ⟨Nat.le_of_ble_eq_true rfl, Nat.le_of_ble_eq_true rfl⟩
theorem popIx : Statement .popIx := fun _ _ _ => ⟨Nat.le_of_ble_eq_true rfl, Nat.le_of_ble_eq_true rfl⟩
theorem popIy : Statement .popIy := fun _ _ _ => ⟨Nat.le_of_ble_eq_true rfl, Nat.le_of_ble_eq_true rfl⟩
theorem popZz (zz : ZZ) : Statement (.popZz zz) := fun _ _ _ => ⟨Nat.le_of_ble_eq_true rfl, Nat.le_of_ble_eq_true rfl⟩
theorem pushIp : Statement .pushIp := fun _ _ _ => ⟨Nat.le_of_ble_eq_true rfl, Nat.le_of_ble_eq_true rfl⟩
theorem pushIx : Statement .pushIx := fun _ _ _ => ⟨Nat.le_of_ble_eq_true rfl, Nat.le_of_ble_eq_true rfl⟩
theorem pushIy : Statement .pushIy := fun _ _ _ => ⟨Nat.le_of_ble_eq_true rfl, Nat.le_of_ble_eq_true rfl⟩
theorem pushZz (zz : ZZ) : Statement (.pushZz zz) := fun _ _ _ => ⟨Nat.le_of_ble_eq_true rfl, Nat.le_of_ble_eq_true rfl⟩
theorem addSpD (d : Byte) : Statement (.addSpD d) := fun _ _ _ => ⟨Nat.le_of_ble_eq_true rfl, Nat.le_of_ble_eq_true rfl⟩
theorem adcHlSs (ss : SS) : Statement (.adcHlSs ss) := fun _ _ _ => ⟨Nat.le_of_ble_eq_true rfl, Nat.le_of_ble_eq_true rfl⟩
theorem addHlSs (ss : SS) : Statement (.addHlSs ss) := fun _ _ _ => ⟨Nat.le_of_ble_eq_true rfl, Nat.le_of_ble_eq_true rfl⟩
theorem addIxXx (xx : XX) : Statement (.addIxXx xx) := fun _ _ _ => ⟨Nat.le_of_ble_eq_true rfl, Nat.le_of_ble_eq_true rfl⟩
theorem addIyYy (yy : YY) : Statement (.addIyYy yy) := fun _ _ _ => ⟨Nat.le_of_ble_eq_true rfl, Nat.le_of_ble_eq_true rfl⟩
theorem andHlDe : Statement .andHlDe := fun _ _ _ => ⟨Nat.le_of_ble_eq_true rfl, Nat.le_of_ble_eq_true rfl⟩
theorem andIxDe : Statement .andIxDe := fun _ _ _ => ⟨Nat.le_of_ble_eq_true rfl, Nat.le_of_ble_eq_true rfl⟩
theorem andIyDe : Statement .andIyDe := fun _ _ _ => ⟨Nat.le_of_ble_eq_true rfl, Nat.le_of_ble_eq_true rfl⟩
theorem boolHl : Statement .boolHl := fun _ _ _ => ⟨Nat.le_of_ble_eq_true rfl, Nat.le_of_ble_eq_true rfl⟩
theorem boolIx : Statement .boolIx := fun _ _ _ => ⟨Nat.le_of_ble_eq_true rfl, Nat.le_of_ble_eq_true rfl⟩
theorem boolIy : Statement .boolIy := fun _ _ _ => ⟨Nat.le_of_ble_eq_true rfl, Nat.le_of_ble_eq_true rfl⟩
theorem decIx : Statement .decIx := fun _ _ _ => ⟨Nat.le_of_ble_eq_true rfl, Nat.le_of_ble_eq_true rfl⟩
theorem decIy : Statement .decIy := fun _ _ _ => ⟨Nat.le_of_ble_eq_true rfl, Nat.le_of_ble_eq_true rfl⟩
theorem decSs (ss : SS) : Statement (.decSs ss) := fun _ _ _ => ⟨Nat.le_of_ble_eq_true rfl, Nat.le_of_ble_eq_true rfl⟩
theorem incIx : Statement .incIx := fun _ _ _ => ⟨Nat.le_of_ble_eq_true rfl, Nat.le_of_ble_eq_true rfl⟩
theorem incIy : Statement .incIy := fun _ _ _ => ⟨Nat.le_of_ble_eq_true rfl, Nat.le_of_ble_eq_true rfl⟩
theorem incSs (ss : SS) : Statement (.incSs ss) := fun _ _ _ => ⟨Nat.le_of_ble_eq_true rfl, Nat.le_of_ble_eq_true rfl⟩
theorem mul : Statement .mul := fun _ _ _ => ⟨Nat.le_of_ble_eq_true rfl, Nat.le_of_ble_eq_true rfl⟩
theorem orHlDe : Statement .orHlDe := fun _ _ _ => ⟨Nat.le_of_ble_eq_true rfl, Nat.le_of_ble_eq_true rfl⟩
theorem orIxDe : Statement .orIxDe := fun _ _ _ => ⟨Nat.le_of_ble_eq_true rfl, Nat.le_of_ble_eq_true rfl⟩
theorem orIyDe : Statement .orIyDe := fun _ _ _ => ⟨Nat.le_of_ble_eq_true rfl, Nat.le_of_ble_eq_true rfl⟩
theorem rlDe : Statement .rlDe := fun _ _ _ => ⟨Nat.le_of_ble_eq_true rfl, Nat.le_of_ble_eq_true rfl⟩
theorem rrDe : Statement .rrDe := fun _ _ _ => ⟨Nat.le_of_ble_eq_true rfl, Nat.le_of_ble_eq_true rfl⟩
theorem rrHl : Statement .rrHl := fun _ _ _ => ⟨Nat.le_of_ble_eq_true rfl, Nat.le_of_ble_eq_true rfl⟩
theorem rrIx : Statement .rrIx := fun _ _ _ => ⟨Nat.le_of_ble_eq_true rfl, Nat.le_of_ble_eq_true rfl⟩
theorem rrIy : Statement .rrIy := fun _ _ _ => ⟨Nat.le_of_ble_eq_true rfl, Nat.le_of_ble_eq_true rfl⟩
theorem sbcHlSs (ss : SS) : Statement (.sbcHlSs ss) := fun _ _ _ => ⟨Nat.le_of_ble_eq_true rfl, Nat.le_of_ble_eq_true rfl⟩
theorem adcAAtHl : Statement .adcAAtHl := fun _ _ _ => ⟨Nat.le_of_ble_eq_true rfl, Nat.le_of_ble_eq_true rfl⟩
theorem adcAAtIxD (d : Byte) : Statement (.adcAAtIxD d) := fun _ _ _ => ⟨Nat.le_of_ble_eq_true rfl, Nat.le_of_ble_eq_true rfl⟩
theorem adcAAtIyD (d : Byte) : Statement (.adcAAtIyD d) := fun _ _ _ => ⟨Nat.le_of_ble_eq_true rfl, Nat.le_of_ble_eq_true rfl⟩
theorem adcAN (n : Byte) : Statement (.adcAN n) := fun _ _ _ => ⟨Nat.le_of_ble_eq_true rfl, Nat.le_of_ble_eq_true rfl⟩
theorem adcAR (r : R8) : Statement (.adcAR r) := fun _ _ _ => ⟨Nat.le_of_ble_eq_true rfl, Nat.le_of_ble_eq_true rfl⟩
theorem addAAtHl : Statement .addAAtHl := fun _ _ _ => ⟨Nat.le_of_ble_eq_true rfl, Nat.le_of_ble_eq_true rfl⟩
theorem addAAtIxD (d : Byte) : Statement (.addAAtIxD d) := fun _ _ _ => ⟨Nat.le_of_ble_eq_true rfl, Nat.le_of_ble_eq_true rfl⟩
theorem addAAtIyD (d : Byte) : Statement (.addAAtIyD d) := fun _ _ _ => ⟨Nat.le_of_ble_eq_true rfl, Nat.le_of_ble_eq_true rfl⟩
theorem addAN (n : Byte) : Statement (.addAN n) := fun _ _ _ => ⟨Nat.le_of_ble_eq_true rfl, Nat.le_of_ble_eq_true rfl⟩
theorem addAR (r : R8) : Statement (.addAR r) := fun _ _ _ => ⟨Nat.le_of_ble_eq_true rfl, Nat.le_of_ble_eq_true rfl⟩
theorem andAtHl : Statement .andAtHl := fun _ _ _ => ⟨Nat.le_of_ble_eq_true rfl, Nat.le_of_ble_eq_true rfl⟩
theorem andAtIxD (d : Byte) : Statement (.andAtIxD d) := fun _ _ _ => ⟨Nat.le_of_ble_eq_true rfl, Nat.le_of_ble_eq_true rfl⟩
theorem andAtIyD (d : Byte) : Statement (.andAtIyD d) := fun _ _ _ => ⟨Nat.le_of_ble_eq_true rfl, Nat.le_of_ble_eq_true rfl⟩
theorem andN (n : Byte) : Statement (.andN n) := fun _ _ _ => ⟨Nat.le_of_ble_eq_true rfl, Nat.le_of_ble_eq_true rfl⟩
theorem andR (r : R8) : Statement (.andR r) := fun _ _ _ => ⟨Nat.le_of_ble_eq_true rfl, Nat.le_of_ble_eq_true rfl⟩
theorem cpAtHl : Statement .cpAtHl := fun _ _ _ => ⟨Nat.le_of_ble_eq_true rfl, Nat.le_of_ble_eq_true rfl⟩
theorem cpAtIxD (d : Byte) : Statement (.cpAtIxD d) := fun _ _ _ => ⟨Nat.le_of_ble_eq_true rfl, Nat.le_of_ble_eq_true rfl⟩
theorem cpAtIyD (d : Byte) : Statement (.cpAtIyD d) := fun _ _ _ => ⟨Nat.le_of_ble_eq_true rfl, Nat.le_of_ble_eq_true rfl⟩
theorem cpN (n : Byte) : Statement (.cpN n) := fun _ _ _ => ⟨Nat.le_of_ble_eq_true rfl, Nat.le_of_ble_eq_true rfl⟩
theorem cpR (r : R8) : Statement (.cpR r) := fun _ _ _ => ⟨Nat.le_of_ble_eq_true rfl, Nat.le_of_ble_eq_true rfl⟩
theorem orAtHl : Statement .orAtHl := fun _ _ _ => ⟨Nat.le_of_ble_eq_true rfl, Nat.le_of_ble_eq_true rfl⟩
theorem orAtIxD (d : Byte) : Statement (.orAtIxD d) := fun _ _ _ => ⟨Nat.le_of_ble_eq_true rfl, Nat.le_of_ble_eq_true rfl⟩
theorem orAtIyD (d : Byte) : Statement (.orAtIyD d) := fun _ _ _ => ⟨Nat.le_of_ble_eq_true rfl, Nat.le_of_ble_eq_true rfl⟩
theorem orN (n : Byte) : Statement (.orN n) := fun _ _ _ => ⟨Nat.le_of_ble_eq_true rfl, Nat.le_of_ble_eq_true rfl⟩
theorem orR (r : R8) : Statement (.orR r) := fun _ _ _ => ⟨Nat.le_of_ble_eq_true rfl, Nat.le_of_ble_eq_true rfl⟩
theorem sbcAAtHl : Statement .sbcAAtHl := fun _ _ _ => ⟨Nat.le_of_ble_eq_true rfl, Nat.le_of_ble_eq_true rfl⟩
theorem sbcAAtIxD (d : Byte) : Statement (.sbcAAtIxD d) := fun _ _ _ => ⟨Nat.le_of_ble_eq_true rfl, Nat.le_of_ble_eq_true rfl⟩
theorem sbcAAtIyD (d : Byte) : Statement (.sbcAAtIyD d) := fun _ _ _ => ⟨Nat.le_of_ble_eq_true rfl, Nat.le_of_ble_eq_true rfl⟩
theorem sbcAN (n : Byte) : Statement (.sbcAN n) := fun _ _ _ => ⟨Nat.le_of_ble_eq_true rfl, Nat.le_of_ble_eq_true rfl⟩
theorem sbcAR (r : R8) : Statement (.sbcAR r) := fun _ _ _ => ⟨Nat.le_of_ble_eq_true rfl, Nat.le_of_ble_eq_true rfl⟩
theorem subAtHl : Statement .subAtHl := fun _ _ _ => ⟨Nat.le_of_ble_eq_true rfl, Nat.le_of_ble_eq_true rfl⟩
theorem subAtIxD (d : Byte) : Statement (.subAtIxD d) := fun _ _ _ => ⟨Nat.le_of_ble_eq_true rfl, Nat.le_of_ble_eq_true rfl⟩
theorem subAtIyD (d : Byte) : Statement (.subAtIyD d) := fun _ _ _ => ⟨Nat.le_of_ble_eq_true rfl, Nat.le_of_ble_eq_true rfl⟩
theorem subN (n : Byte) : Statement (.subN n) := fun _ _ _ => ⟨Nat.le_of_ble_eq_true rfl, Nat.le_of_ble_eq_true rfl⟩
theorem subR (r : R8) : Statement (.subR r) := fun _ _ _ => ⟨Nat.le_of_ble_eq_true rfl, Nat.le_of_ble_eq_true rfl⟩
theorem xorAtHl : Statement .xorAtHl := fun _ _ _ => ⟨Nat.le_of_ble_eq_true rfl, Nat.le_of_ble_eq_true rfl⟩
theorem xorAtIxD (d : Byte) : Statement (.xorAtIxD d) := fun _ _ _ => ⟨Nat.le_of_ble_eq_true rfl, Nat.le_of_ble_eq_true rfl⟩
theorem xorAtIyD (d : Byte) : Statement (.xorAtIyD d) := fun _ _ _ => ⟨Nat.le_of_ble_eq_true rfl, Nat.le_of_ble_eq_true rfl⟩
theorem xorN (n : Byte) : Statement (.xorN n) := fun _ _ _ => ⟨Nat.le_of_ble_eq_true rfl, Nat.le_of_ble_eq_true rfl⟩
theorem xorR (r : R8) : Statement (.xorR r) := fun _ _ _ => ⟨Nat.le_of_ble_eq_true rfl, Nat.le_of_ble_eq_true rfl⟩
theorem decAtHl : Statement .decAtHl := fun _ _ _ => ⟨Nat.le_of_ble_eq_true rfl, Nat.le_of_ble_eq_true rfl⟩
theorem decAtIxD (d : Byte) : Statement (.decAtIxD d) := fun _ _ _ => ⟨Nat.le_of_ble_eq_true rfl, Nat.le_of_ble_eq_true rfl⟩
theorem decAtIyD (d : Byte) : Statement (.decAtIyD d) := fun _ _ _ => ⟨Nat.le_of_ble_eq_true rfl, Nat.le_of_ble_eq_true rfl⟩
theorem decR (r : R8) : Statement (.decR r) := fun _ _ _ => ⟨Nat.le_of_ble_eq_true rfl, Nat.le_of_ble_eq_true rfl⟩
theorem incAtHl : Statement .incAtHl := fun _ _ _ => ⟨Nat.le_of_ble_eq_true rfl, Nat.le_of_ble_eq_true rfl⟩
theorem incAtIxD (d : Byte) : Statement (.incAtIxD d) := fun _ _ _ => ⟨Nat.le_of_ble_eq_true rfl, Nat.le_of_ble_eq_true rfl⟩
theorem incAtIyD (d : Byte) : Statement (.incAtIyD d) := fun _ _ _ => ⟨Nat.le_of_ble_eq_true rfl, Nat.le_of_ble_eq_true rfl⟩
theorem incR (r : R8) : Statement (.incR r) := fun _ _ _ => ⟨Nat.le_of_ble_eq_true rfl, Nat.le_of_ble_eq_true rfl⟩
theorem cpl : Statement .cpl := fun _ _ _ => ⟨Nat.le_of_ble_eq_true rfl, Nat.le_of_ble_eq_true rfl⟩
theorem neg : Statement .neg := fun _ _ _ => ⟨Nat.le_of_ble_eq_true rfl, Nat.le_of_ble_eq_true rfl⟩
theorem rla : Statement .rla := fun _ _ _ => ⟨Nat.le_of_ble_eq_true rfl, Nat.le_of_ble_eq_true rfl⟩
theorem rlca : Statement .rlca := fun _ _ _ => ⟨Nat.le_of_ble_eq_true rfl, Nat.le_of_ble_eq_true rfl⟩
theorem rra : Statement .rra := fun _ _ _ => ⟨Nat.le_of_ble_eq_true rfl, Nat.le_of_ble_eq_true rfl⟩
theorem rrca : Statement .rrca := fun _ _ _ => ⟨Nat.le_of_ble_eq_true rfl, Nat.le_of_ble_eq_true rfl⟩
theorem bitBAtHl (b : BitVec 3) : Statement (.bitBAtHl b) := fun _ _ _ => ⟨Nat.le_of_ble_eq_true rfl, Nat.le_of_ble_eq_true rfl⟩
theorem bitBAtIxD (b : BitVec 3) (d : Byte) : Statement (.bitBAtIxD b d) := fun _ _ _ => ⟨Nat.le_of_ble_eq_true rfl, Nat.le_of_ble_eq_true rfl⟩
theorem bitBAtIyD (b : BitVec 3) (d : Byte) : Statement (.bitBAtIyD b d) := fun _ _ _ => ⟨Nat.le_of_ble_eq_true rfl, Nat.le_of_ble_eq_true rfl⟩
theorem bitBR (b : BitVec 3) (r : R8) : Statement (.bitBR b r) := fun _ _ _ => ⟨Nat.le_of_ble_eq_true rfl, Nat.le_of_ble_eq_true rfl⟩
theorem resBAtHl (b : BitVec 3) : Statement (.resBAtHl b) := fun _ _ _ => ⟨Nat.le_of_ble_eq_true rfl, Nat.le_of_ble_eq_true rfl⟩
theorem resBAtIxD (b : BitVec 3) (d : Byte) : Statement (.resBAtIxD b d) := fun _ _ _ => ⟨Nat.le_of_ble_eq_true rfl, Nat.le_of_ble_eq_true rfl⟩
theorem resBAtIyD (b : BitVec 3) (d : Byte) : Statement (.resBAtIyD b d) := fun _ _ _ => ⟨Nat.le_of_ble_eq_true rfl, Nat.le_of_ble_eq_true rfl⟩
theorem resBR (b : BitVec 3) (r : R8) : Statement (.resBR b r) := fun _ _ _ => ⟨Nat.le_of_ble_eq_true rfl, Nat.le_of_ble_eq_true rfl⟩
theorem setBAtHl (b : BitVec 3) : Statement (.setBAtHl b) := fun _ _ _ => ⟨Nat.le_of_ble_eq_true rfl, Nat.le_of_ble_eq_true rfl⟩
theorem setBAtIxD (b : BitVec 3) (d : Byte) : Statement (.setBAtIxD b d) := fun _ _ _ => ⟨Nat.le_of_ble_eq_true rfl, Nat.le_of_ble_eq_true rfl⟩
theorem setBAtIyD (b : BitVec 3) (d : Byte) : Statement (.setBAtIyD b d) := fun _ _ _ => ⟨Nat.le_of_ble_eq_true rfl, Nat.le_of_ble_eq_true rfl⟩
theorem setBR (b : BitVec 3) (r : R8) : Statement (.setBR b r) := fun _ _ _ => ⟨Nat.le_of_ble_eq_true rfl, Nat.le_of_ble_eq_true rfl⟩
theorem rlAtHl : Statement .rlAtHl := fun _ _ _ => ⟨Nat.le_of_ble_eq_true rfl, Nat.le_of_ble_eq_true rfl⟩
theorem rlAtIxD (d : Byte) : Statement (.rlAtIxD d) := fun _ _ _ => ⟨Nat.le_of_ble_eq_true rfl, Nat.le_of_ble_eq_true rfl⟩
theorem rlAtIyD (d : Byte) : Statement (.rlAtIyD d) := fun _ _ _ => ⟨Nat.le_of_ble_eq_true rfl, Nat.le_of_ble_eq_true rfl⟩
theorem rlR (r : R8) : Statement (.rlR r) := fun _ _ _ => ⟨Nat.le_of_ble_eq_true rfl, Nat.le_of_ble_eq_true rfl⟩
theorem rlcAtHl : Statement .rlcAtHl := fun _ _ _ => ⟨Nat.le_of_ble_eq_true rfl, Nat.le_of_ble_eq_true rfl⟩
theorem rlcAtIxD (d : Byte) : Statement (.rlcAtIxD d) := fun _ _ _ => ⟨Nat.le_of_ble_eq_true rfl, Nat.le_of_ble_eq_true rfl⟩
theorem rlcAtIyD (d : Byte) : Statement (.rlcAtIyD d) := fun _ _ _ => ⟨Nat.le_of_ble_eq_true rfl, Nat.le_of_ble_eq_true rfl⟩
theorem rlcR (r : R8) : Statement (.rlcR r) := fun _ _ _ => ⟨Nat.le_of_ble_eq_true rfl, Nat.le_of_ble_eq_true rfl⟩
theorem rrAtHl : Statement .rrAtHl := fun _ _ _ => ⟨Nat.le_of_ble_eq_true rfl, Nat.le_of_ble_eq_true rfl⟩
theorem rrAtIxD (d : Byte) : Statement (.rrAtIxD d) := fun _ _ _ => ⟨Nat.le_of_ble_eq_true rfl, Nat.le_of_ble_eq_true rfl⟩
theorem rrAtIyD (d : Byte) : Statement (.rrAtIyD d) := fun _ _ _ => ⟨Nat.le_of_ble_eq_true rfl, Nat.le_of_ble_eq_true rfl⟩
theorem rrR (r : R8) : Statement (.rrR r) := fun _ _ _ => ⟨Nat.le_of_ble_eq_true rfl, Nat.le_of_ble_eq_true rfl⟩
theorem rrcAtHl : Statement .rrcAtHl := fun _ _ _ => ⟨Nat.le_of_ble_eq_true rfl, Nat.le_of_ble_eq_true rfl⟩
theorem rrcAtIxD (d : Byte) : Statement (.rrcAtIxD d) := fun _ _ _ => ⟨Nat.le_of_ble_eq_true rfl, Nat.le_of_ble_eq_true rfl⟩
theorem rrcAtIyD (d : Byte) : Statement (.rrcAtIyD d) := fun _ _ _ => ⟨Nat.le_of_ble_eq_true rfl, Nat.le_of_ble_eq_true rfl⟩
theorem rrcR (r : R8) : Statement (.rrcR r) := fun _ _ _ => ⟨Nat.le_of_ble_eq_true rfl, Nat.le_of_ble_eq_true rfl⟩
theorem slaAtHl : Statement .slaAtHl := fun _ _ _ => ⟨Nat.le_of_ble_eq_true rfl, Nat.le_of_ble_eq_true rfl⟩
theorem slaAtIxD (d : Byte) : Statement (.slaAtIxD d) := fun _ _ _ => ⟨Nat.le_of_ble_eq_true rfl, Nat.le_of_ble_eq_true rfl⟩
theorem slaAtIyD (d : Byte) : Statement (.slaAtIyD d) := fun _ _ _ => ⟨Nat.le_of_ble_eq_true rfl, Nat.le_of_ble_eq_true rfl⟩
theorem slaR (r : R8) : Statement (.slaR r) := fun _ _ _ => ⟨Nat.le_of_ble_eq_true rfl, Nat.le_of_ble_eq_true rfl⟩
theorem sraAtHl : Statement .sraAtHl := fun _ _ _ => ⟨Nat.le_of_ble_eq_true rfl, Nat.le_of_ble_eq_true rfl⟩
theorem sraAtIxD (d : Byte) : Statement (.sraAtIxD d) := fun _ _ _ => ⟨Nat.le_of_ble_eq_true rfl, Nat.le_of_ble_eq_true rfl⟩
theorem sraAtIyD (d : Byte) : Statement (.sraAtIyD d) := fun _ _ _ => ⟨Nat.le_of_ble_eq_true rfl, Nat.le_of_ble_eq_true rfl⟩
theorem sraR (r : R8) : Statement (.sraR r) := fun _ _ _ => ⟨Nat.le_of_ble_eq_true rfl, Nat.le_of_ble_eq_true rfl⟩
theorem srlAtHl : Statement .srlAtHl := fun _ _ _ => ⟨Nat.le_of_ble_eq_true rfl, Nat.le_of_ble_eq_true rfl⟩
theorem srlAtIxD (d : Byte) : Statement (.srlAtIxD d) := fun _ _ _ => ⟨Nat.le_of_ble_eq_true rfl, Nat.le_of_ble_eq_true rfl⟩
theorem srlAtIyD (d : Byte) : Statement (.srlAtIyD d) := fun _ _ _ => ⟨Nat.le_of_ble_eq_true rfl, Nat.le_of_ble_eq_true rfl⟩
theorem srlR (r : R8) : Statement (.srlR r) := fun _ _ _ => ⟨Nat.le_of_ble_eq_true rfl, Nat.le_of_ble_eq_true rfl⟩
theorem altd : Statement .altd := fun _ _ _ => ⟨Nat.le_of_ble_eq_true rfl, Nat.le_of_ble_eq_true rfl⟩
theorem ioi : Statement .ioi := fun _ _ _ => ⟨Nat.le_of_ble_eq_true rfl, Nat.le_of_ble_eq_true rfl⟩
theorem ioe : Statement .ioe := fun _ _ _ => ⟨Nat.le_of_ble_eq_true rfl, Nat.le_of_ble_eq_true rfl⟩
theorem ldd : Statement .ldd := fun _ _ _ => ⟨Nat.le_of_ble_eq_true rfl, Nat.le_of_ble_eq_true rfl⟩
theorem lddr : Statement .lddr := fun _ _ _ => ⟨Nat.le_of_ble_eq_true rfl, Nat.le_of_ble_eq_true rfl⟩
theorem ldi : Statement .ldi := fun _ _ _ => ⟨Nat.le_of_ble_eq_true rfl, Nat.le_of_ble_eq_true rfl⟩
theorem ldir : Statement .ldir := fun _ _ _ => ⟨Nat.le_of_ble_eq_true rfl, Nat.le_of_ble_eq_true rfl⟩
theorem callMn (mn : Word) : Statement (.callMn mn) := fun _ _ _ => ⟨Nat.le_of_ble_eq_true rfl, Nat.le_of_ble_eq_true rfl⟩
theorem djnzE (e : Byte) : Statement (.djnzE e) := fun _ _ _ => ⟨Nat.le_of_ble_eq_true rfl, Nat.le_of_ble_eq_true rfl⟩
theorem jpAtHl : Statement .jpAtHl := fun _ _ _ => ⟨Nat.le_of_ble_eq_true rfl, Nat.le_of_ble_eq_true rfl⟩
theorem jpAtIx : Statement .jpAtIx := fun _ _ _ => ⟨Nat.le_of_ble_eq_true rfl, Nat.le_of_ble_eq_true rfl⟩
theorem jpAtIy : Statement .jpAtIy := fun _ _ _ => ⟨Nat.le_of_ble_eq_true rfl, Nat.le_of_ble_eq_true rfl⟩
theorem jpFMn (f : Cond) (mn : Word) : Statement (.jpFMn f mn) := fun _ _ _ => ⟨Nat.le_of_ble_eq_true rfl, Nat.le_of_ble_eq_true rfl⟩
theorem jpMn (mn : Word) : Statement (.jpMn mn) := fun _ _ _ => ⟨Nat.le_of_ble_eq_true rfl, Nat.le_of_ble_eq_true rfl⟩
theorem jrCcE (cc : CC) (e : Byte) : Statement (.jrCcE cc e) := fun _ _ _ => ⟨Nat.le_of_ble_eq_true rfl, Nat.le_of_ble_eq_true rfl⟩
theorem jrE (e : Byte) : Statement (.jrE e) := fun _ _ _ => ⟨Nat.le_of_ble_eq_true rfl, Nat.le_of_ble_eq_true rfl⟩
theorem lcallXMn (x : Byte) (mn : Word) : Statement (.lcallXMn x mn) := fun _ _ _ => ⟨Nat.le_of_ble_eq_true rfl, Nat.le_of_ble_eq_true rfl⟩
theorem ljpXMn (x : Byte) (mn : Word) : Statement (.ljpXMn x mn) := fun _ _ _ => ⟨Nat.le_of_ble_eq_true rfl, Nat.le_of_ble_eq_true rfl⟩
theorem lret : Statement .lret := fun _ _ _ => ⟨Nat.le_of_ble_eq_true rfl, Nat.le_of_ble_eq_true rfl⟩
theorem ret : Statement .ret := fun _ _ _ => ⟨Nat.le_of_ble_eq_true rfl, Nat.le_of_ble_eq_true rfl⟩
theorem retF (f : Cond) : Statement (.retF f) := fun _ _ _ => ⟨Nat.le_of_ble_eq_true rfl, Nat.le_of_ble_eq_true rfl⟩
theorem reti : Statement .reti := fun _ _ _ => ⟨Nat.le_of_ble_eq_true rfl, Nat.le_of_ble_eq_true rfl⟩
theorem rstV (v : RstV) : Statement (.rstV v) := fun _ _ _ => ⟨Nat.le_of_ble_eq_true rfl, Nat.le_of_ble_eq_true rfl⟩
theorem ccf : Statement .ccf := fun _ _ _ => ⟨Nat.le_of_ble_eq_true rfl, Nat.le_of_ble_eq_true rfl⟩
theorem ipset0 : Statement .ipset0 := fun _ _ _ => ⟨Nat.le_of_ble_eq_true rfl, Nat.le_of_ble_eq_true rfl⟩
theorem ipset1 : Statement .ipset1 := fun _ _ _ => ⟨Nat.le_of_ble_eq_true rfl, Nat.le_of_ble_eq_true rfl⟩
theorem ipset2 : Statement .ipset2 := fun _ _ _ => ⟨Nat.le_of_ble_eq_true rfl, Nat.le_of_ble_eq_true rfl⟩
theorem ipset3 : Statement .ipset3 := fun _ _ _ => ⟨Nat.le_of_ble_eq_true rfl, Nat.le_of_ble_eq_true rfl⟩
theorem ipres : Statement .ipres := fun _ _ _ => ⟨Nat.le_of_ble_eq_true rfl, Nat.le_of_ble_eq_true rfl⟩
theorem nop : Statement .nop := fun _ _ _ => ⟨Nat.le_of_ble_eq_true rfl, Nat.le_of_ble_eq_true rfl⟩
theorem scf : Statement .scf := fun _ _ _ => ⟨Nat.le_of_ble_eq_true rfl, Nat.le_of_ble_eq_true rfl⟩
theorem uma : Statement .uma := of_added rfl rfl fun _ => rfl
theorem ums : Statement .ums := of_added rfl rfl fun _ => rfl
theorem lddsr : Statement .lddsr := of_added rfl rfl fun _ => rfl
theorem ldisr : Statement .ldisr := of_added rfl rfl fun _ => rfl
theorem lsdr : Statement .lsdr := of_added rfl rfl fun _ => rfl
theorem lsir : Statement .lsir := of_added rfl rfl fun _ => rfl
theorem lsddr : Statement .lsddr := of_added rfl rfl fun _ => rfl
theorem lsidr : Statement .lsidr := of_added rfl rfl fun _ => rfl
theorem setusr : Statement .setusr := of_added rfl rfl fun _ => rfl
theorem pushSu : Statement .pushSu := of_added rfl rfl fun _ => rfl
theorem popSu : Statement .popSu := of_added rfl rfl fun _ => rfl
theorem sures : Statement .sures := of_added rfl rfl fun _ => rfl
theorem idet : Statement .idet := fun _ _ _ => ⟨Nat.le_of_ble_eq_true rfl, Nat.le_of_ble_eq_true rfl⟩
theorem rdmode : Statement .rdmode := of_added rfl rfl fun _ => rfl
theorem syscall : Statement .syscall := of_added rfl rfl fun _ => rfl

end Sys2Proof.Laws.Length
end

