-- ==== Sys2Proof/Laws/Run.lean ====
section
/-! SUPPORT. One lemma per operation outside an instruction: the boot ROM's bytes and steps, and a step that a reset or a
32 kHz cycle falls into. -/
namespace Sys2Proof.Machine

/-- Devices replaced by ones with the same guarded part but for the boot ROM's, whose triplet is not whole. -/
theorem DataStep.withBoot (s : State) {d : Dev} (h : d.kept = ({ s.dev with boot := d.boot } : Dev).kept)
    (hb : MachineInv s → d.boot.bytes.length ≤ 2) : DataStep s { s with dev := d } :=
  ⟨rfl, rfl, rfl, id, fun i => ⟨i.memory, DevInv.of_kept (d := { s.dev with boot := d.boot })
    ⟨i.dev.mmu, i.dev.edmr, i.dev.gcdr, i.dev.spreader, i.dev.portC, hb i⟩ h⟩⟩

/-- An I/O write that is not refused leaves all but the devices alone and keeps the invariant. -/
theorem State.ioWriteInternal_data {s t : State} {user : Bool} {a : Word} {v : Byte}
    (h : s.ioWrite (ioWriteInternal s.cfg user s.dev a v) = .next t) : DataStep s t := by
  rcases State.ioWrite_next h with rfl | ⟨d, hd, rfl⟩
  · exact .refl _
  · exact ⟨rfl, rfl, rfl, State.oneWriteLess_of_none, fun i => ⟨i.memory, i.dev.ioWriteInternal hd⟩⟩

/-- A byte the boot ROM takes leaves the CPU, the parameters and the plans alone and keeps the invariant. -/
theorem State.bootByte_data {s t : State} {v : Byte} (h : s.bootByte v = .next t) : DataStep s t := by
  unfold State.bootByte at h
  dsimp only at h
  split at h
  · refine DataStep.trans (DataStep.withBoot s (d := { s.dev with
      wdt := { s.dev.wdt with count := 0 }, boot := { s.dev.boot with source := s.dev.smode, bytes := [] } }) rfl
      fun _ => Nat.zero_le 2) ?_
    split at h
    · exact State.ioWriteInternal_data h
    · injection h with h; subst h; exact State.memWrite_data _ _ _
  · rename_i bs hbs
    injection h with h; subst h
    refine DataStep.withBoot s (d := { s.dev with
      wdt := { s.dev.wdt with count := 0 }, boot := { s.dev.boot with bytes := s.dev.boot.bytes ++ [v] } }) rfl fun i => ?_
    have hl := i.dev.boot
    match hs : s.dev.boot.bytes with
    | [] => simp
    | [_] => simp
    | [a, b] => exact absurd hs (hbs a b)
    | _ :: _ :: _ :: _ => rw [hs] at hl; simp at hl

/-- A step of the boot ROM: the hand-over, or a byte of the slave port taken, or nothing. -/
theorem State.bootStep_next {s t : State} (h : s.bootStep = .next t) : t = s.bootExit ∨ DataStep s t := by
  unfold State.bootStep at h
  split at h
  · injection h with h; exact .inl h.symm
  · split at h
    · exact .inr ((DataStep.withDev s (d := { s.dev with slave := (s.dev.slave.readIn 0).2 }) rfl).trans (State.bootByte_data h))
    · injection h with h; exact .inr (h ▸ .refl s)

/-- A step that a reset cuts after `k` byte writes: a step of the CPU with that many, whose registers count only if it had
fewer. -/
theorem State.cpuStepCut_next {s t : State} {k : Nat} (h : s.cpuStepCut k = .next t) :
    ∃ u, ({ s with writesLeft := some k } : State).cpuStep = .next u ∧
      t = { u with cpu := if u.writesLeft = some 0 then s.cpu else u.cpu, writesLeft := none } := by
  obtain ⟨u, h1, h2⟩ := andThen_next h
  injection h2 with h2
  exact ⟨u, h1, h2.symm⟩

/-- A reset inside a step: the reset of what the cut step leaves. -/
theorem State.resetInside_next {s t : State} {k : Nat} (h : s.resetInside k = .next t) :
    ∃ u, s.cpuStepCut k = .next u ∧ t = u.resetPin := by
  obtain ⟨u, h1, h2⟩ := andThen_next h
  injection h2 with h2
  exact ⟨u, h1, h2.symm⟩

/-- A 32 kHz cycle inside a step: the watchdog's reset of what the cut step leaves, or the cycle after the whole step. -/
theorem State.clk32kInside_next {s t : State} {k : Nat} (h : s.clk32kInside k = .next t) :
    (∃ u, s.cpuStepCut k = .next u ∧ u.dev.wdt.expires = true ∧ t = u.tick32k) ∨
    (∃ u, s.cpuStep = .next u ∧ t = u.tick32k.testClocked) := by
  obtain ⟨u, h1, h2⟩ := andThen_next h
  split at h2
  · injection h2 with h2; exact .inl ⟨u, h1, ‹_›, h2.symm⟩
  · obtain ⟨w, h3, h4⟩ := andThen_next h2
    injection h4 with h4
    exact .inr ⟨w, h3, h4.symm⟩

end Sys2Proof.Machine
end

