-- ==== Sys2Proof/Tests/Slice0.lean ====
section
/-! SUPPORT. The model's own tests: refusals of ill-formed instructions, words written out from the spec's encodings, single
steps with the results `95_test_vectors.md` gives, and a witness for the hypotheses of each statement. -/
namespace Sys2Proof.Tests
open Sys2Proof.Machine

/-! Well-formedness (`30_encoding.md` R126, R133) -/

theorem test_wellFormed_refuses_3000A_only : ([.uma, .ums, .lddsr, .ldisr, .lsdr, .lsir, .lsddr, .lsidr, .setusr, .pushSu,
    .popSu, .sures, .idet, .rdmode, .syscall] : List Instr).all (fun i =>
    !WellFormed .r3000 .default i && WellFormed .r3000A .default i) = true := by decide

/-- An added instruction that the map gives no byte has no encoding (`R3000A_OPCODES`, log 12). -/
theorem test_wellFormed_refuses_unmapped : WellFormed .r3000A [] .uma = false ∧ WellFormed .r3000A [(.uma, 0xC9)] .uma = true ∧
    WellFormed .r3000A [(.uma, 0xC9)] .ums = false ∧ WellFormed .r3000A [] .idet = true := by decide

theorem test_wellFormed_refuses_ldEE : WellFormed .r3000A .default (.ldRG .e .e) = false ∧
    WellFormed .r3000 .default (.ldRG .e .e) = true ∧ WellFormed .r3000A .default (.ldRG .e .d) = true := by decide

/-! Decoding: for every row of `opcode_table.json`, its encoding with operands filled in (`30_encoding.md`) -/

/-- Whether these bytes decode to this instruction, and encode gives them back. -/
def reads (rev : Rev) (w : List Byte × Instr) : Bool :=
  match decode rev .default w.1 with
  | .ok (i, []) => decide (i = w.2) && decide (encode .default i = w.1)
  | .ok _ => false
  | .error _ => false

/-- Whether these bytes are an unassigned encoding, of this page and operation. -/
def rejects (rev : Rev) (bs : List Byte) (page : String) (op : Byte) : Bool :=
  match decode rev .default bs with
  | .error (.unassigned p o) => decide (p = page) && decide (o = op)
  | .error .outOfBytes => false
  | .ok _ => false

theorem test_decode_load_immediate : ([
    ([0xDD, 0x21, 0x23, 0x81], (.ldIxMn 0x8123)), ([0xFD, 0x21, 0x23, 0x81], (.ldIyMn 0x8123)),
    ([0x31, 0x23, 0x81], (.ldDdMn .sp 0x8123)), ([0x26, 0x5A], (.ldRN .h 0x5A)),
    ([0x32, 0x23, 0x81], (.ldAtMnA 0x8123)), ([0x3A, 0x23, 0x81], (.ldAAtMn 0x8123)),
    ([0x22, 0x23, 0x81], (.ldAtMnHl 0x8123)), ([0xDD, 0x22, 0x23, 0x81], (.ldAtMnIx 0x8123)),
    ([0xFD, 0x22, 0x23, 0x81], (.ldAtMnIy 0x8123)), ([0xED, 0x63, 0x23, 0x81], (.ldAtMnSs 0x8123 .hl)),
    ([0x2A, 0x23, 0x81], (.ldHlAtMn 0x8123)), ([0xDD, 0x2A, 0x23, 0x81], (.ldIxAtMn 0x8123)),
    ([0xFD, 0x2A, 0x23, 0x81], (.ldIyAtMn 0x8123)), ([0xED, 0x6B, 0x23, 0x81], (.ldDdAtMn .hl 0x8123))] :
    List (List Byte × Instr)).all (fun x => reads .r3000 x && reads .r3000A x) = true := by decide

theorem test_decode_load_indexed : ([
    ([0x0A], .ldAAtBc), ([0x1A], .ldAAtDe), ([0x02], .ldAtBcA), ([0x12], .ldAtDeA), ([0x36, 0x5A], (.ldAtHlN 0x5A)),
    ([0x70], (.ldAtHlR .b)), ([0x4E], (.ldRAtHl .c)), ([0xDD, 0x36, 0xFE, 0x5A], (.ldAtIxDN 0xFE 0x5A)),
    ([0xDD, 0x75, 0xFE], (.ldAtIxDR 0xFE .l)), ([0xDD, 0x7E, 0xFE], (.ldRAtIxD .a 0xFE)),
    ([0xFD, 0x36, 0xFE, 0x5A], (.ldAtIyDN 0xFE 0x5A)), ([0xFD, 0x73, 0xFE], (.ldAtIyDR 0xFE .e)),
    ([0xFD, 0x46, 0xFE], (.ldRAtIyD .b 0xFE)), ([0xDD, 0xF4, 0xFE], (.ldAtHlDHl 0xFE)),
    ([0xDD, 0xE4, 0xFE], (.ldHlAtHlD 0xFE)), ([0xD4, 0x5A], (.ldAtSpNHl 0x5A)),
    ([0xDD, 0xD4, 0x5A], (.ldAtSpNIx 0x5A)), ([0xFD, 0xD4, 0x5A], (.ldAtSpNIy 0x5A)),
    ([0xC4, 0x5A], (.ldHlAtSpN 0x5A)), ([0xDD, 0xC4, 0x5A], (.ldIxAtSpN 0x5A)),
    ([0xFD, 0xC4, 0x5A], (.ldIyAtSpN 0x5A)), ([0xF4, 0xFE], (.ldAtIxDHl 0xFE)), ([0xE4, 0xFE], (.ldHlAtIxD 0xFE)),
    ([0xFD, 0xF4, 0xFE], (.ldAtIyDHl 0xFE)), ([0xFD, 0xE4, 0xFE], (.ldHlAtIyD 0xFE)), ([0xED, 0x64], .ldpAtHlHl),
    ([0xDD, 0x64], .ldpAtIxHl), ([0xFD, 0x64], .ldpAtIyHl), ([0xED, 0x6C], .ldpHlAtHl), ([0xDD, 0x6C], .ldpHlAtIx),
    ([0xFD, 0x6C], .ldpHlAtIy), ([0xED, 0x65, 0x23, 0x81], (.ldpAtMnHl 0x8123)),
    ([0xDD, 0x65, 0x23, 0x81], (.ldpAtMnIx 0x8123)), ([0xFD, 0x65, 0x23, 0x81], (.ldpAtMnIy 0x8123)),
    ([0xED, 0x6D, 0x23, 0x81], (.ldpHlAtMn 0x8123)), ([0xDD, 0x6D, 0x23, 0x81], (.ldpIxAtMn 0x8123)),
    ([0xFD, 0x6D, 0x23, 0x81], (.ldpIyAtMn 0x8123))] :
    List (List Byte × Instr)).all (fun x => reads .r3000 x && reads .r3000A x) = true := by decide

theorem test_decode_move_stack : ([
    ([0x61], (.ldRG .h .c)), ([0xED, 0x57], .ldAEir), ([0xED, 0x5F], .ldAIir), ([0xED, 0x77], .ldAXpc),
    ([0xED, 0x47], .ldEirA), ([0xED, 0x4F], .ldIirA), ([0xED, 0x67], .ldXpcA), ([0xDD, 0x7C], .ldHlIx),
    ([0xFD, 0x7C], .ldHlIy), ([0xDD, 0x7D], .ldIxHl), ([0xFD, 0x7D], .ldIyHl), ([0xF9], .ldSpHl),
    ([0xDD, 0xF9], .ldSpIx), ([0xFD, 0xF9], .ldSpIy), ([0xED, 0x49], (.ldDdaBc .bc)), ([0xED, 0x51], (.ldDdaDe .de)),
    ([0xED, 0x54], .exAtSpHl), ([0xDD, 0xE3], .exAtSpIx), ([0xFD, 0xE3], .exAtSpIy), ([0x08], .exAfAfa),
    ([0xE3], .exDeaHl), ([0x76, 0xE3], .exDeaHla), ([0xEB], .exDeHl), ([0x76, 0xEB], .exDeHla), ([0xD9], .exx),
    ([0xED, 0x7E], .popIp), ([0xDD, 0xE1], .popIx), ([0xFD, 0xE1], .popIy), ([0xC1], (.popZz .bc)),
    ([0xED, 0x76], .pushIp), ([0xDD, 0xE5], .pushIx), ([0xFD, 0xE5], .pushIy), ([0xC5], (.pushZz .bc)),
    ([0x27, 0xFE], (.addSpD 0xFE))] :
    List (List Byte × Instr)).all (fun x => reads .r3000 x && reads .r3000A x) = true := by decide

theorem test_decode_arith16 : ([
    ([0xED, 0x6A], (.adcHlSs .hl)), ([0x39], (.addHlSs .sp)), ([0xDD, 0x29], (.addIxXx .ix)),
    ([0xFD, 0x29], (.addIyYy .iy)), ([0xDC], .andHlDe), ([0xDD, 0xDC], .andIxDe), ([0xFD, 0xDC], .andIyDe),
    ([0xCC], .boolHl), ([0xDD, 0xCC], .boolIx), ([0xFD, 0xCC], .boolIy), ([0xDD, 0x2B], .decIx),
    ([0xFD, 0x2B], .decIy), ([0x2B], (.decSs .hl)), ([0xDD, 0x23], .incIx), ([0xFD, 0x23], .incIy),
    ([0x13], (.incSs .de)), ([0xF7], .mul), ([0xEC], .orHlDe), ([0xDD, 0xEC], .orIxDe), ([0xFD, 0xEC], .orIyDe),
    ([0xF3], .rlDe), ([0xFB], .rrDe), ([0xFC], .rrHl), ([0xDD, 0xFC], .rrIx), ([0xFD, 0xFC], .rrIy),
    ([0xED, 0x72], (.sbcHlSs .sp))] :
    List (List Byte × Instr)).all (fun x => reads .r3000 x && reads .r3000A x) = true := by decide

theorem test_decode_arith8_1 : ([
    ([0x8E], .adcAAtHl), ([0xDD, 0x8E, 0xFE], (.adcAAtIxD 0xFE)), ([0xFD, 0x8E, 0xFE], (.adcAAtIyD 0xFE)),
    ([0xCE, 0x5A], (.adcAN 0x5A)), ([0x8C], (.adcAR .h)), ([0x86], .addAAtHl),
    ([0xDD, 0x86, 0xFE], (.addAAtIxD 0xFE)), ([0xFD, 0x86, 0xFE], (.addAAtIyD 0xFE)), ([0xC6, 0x5A], (.addAN 0x5A)),
    ([0x85], (.addAR .l)), ([0xA6], .andAtHl), ([0xDD, 0xA6, 0xFE], (.andAtIxD 0xFE)),
    ([0xFD, 0xA6, 0xFE], (.andAtIyD 0xFE)), ([0xE6, 0x5A], (.andN 0x5A)), ([0xA1], (.andR .c)), ([0xBE], .cpAtHl),
    ([0xDD, 0xBE, 0xFE], (.cpAtIxD 0xFE)), ([0xFD, 0xBE, 0xFE], (.cpAtIyD 0xFE)), ([0xFE, 0x5A], (.cpN 0x5A)),
    ([0xBB], (.cpR .e)), ([0xB6], .orAtHl), ([0xDD, 0xB6, 0xFE], (.orAtIxD 0xFE)),
    ([0xFD, 0xB6, 0xFE], (.orAtIyD 0xFE)), ([0xF6, 0x5A], (.orN 0x5A)), ([0xB7], (.orR .a)), ([0x9E], .sbcAAtHl),
    ([0xDD, 0x9E, 0xFE], (.sbcAAtIxD 0xFE)), ([0xFD, 0x9E, 0xFE], (.sbcAAtIyD 0xFE)), ([0xDE, 0x5A], (.sbcAN 0x5A)),
    ([0x9A], (.sbcAR .d)), ([0x96], .subAtHl), ([0xDD, 0x96, 0xFE], (.subAtIxD 0xFE)),
    ([0xFD, 0x96, 0xFE], (.subAtIyD 0xFE)), ([0xD6, 0x5A], (.subN 0x5A)), ([0x90], (.subR .b)), ([0xAE], .xorAtHl),
    ([0xDD, 0xAE, 0xFE], (.xorAtIxD 0xFE)), ([0xFD, 0xAE, 0xFE], (.xorAtIyD 0xFE)), ([0xEE, 0x5A], (.xorN 0x5A)),
    ([0xAC], (.xorR .h))] :
    List (List Byte × Instr)).all (fun x => reads .r3000 x && reads .r3000A x) = true := by decide

theorem test_decode_arith8_2 : ([
    ([0x35], .decAtHl), ([0xDD, 0x35, 0xFE], (.decAtIxD 0xFE)), ([0xFD, 0x35, 0xFE], (.decAtIyD 0xFE)),
    ([0x15], (.decR .d)), ([0x34], .incAtHl), ([0xDD, 0x34, 0xFE], (.incAtIxD 0xFE)),
    ([0xFD, 0x34, 0xFE], (.incAtIyD 0xFE)), ([0x1C], (.incR .e)), ([0x2F], .cpl), ([0xED, 0x44], .neg),
    ([0x17], .rla), ([0x07], .rlca), ([0x1F], .rra), ([0x0F], .rrca)] :
    List (List Byte × Instr)).all (fun x => reads .r3000 x && reads .r3000A x) = true := by decide

theorem test_decode_bit_shift : ([
    ([0xCB, 0x6E], (.bitBAtHl 5)), ([0xDD, 0xCB, 0xFE, 0x6E], (.bitBAtIxD 5 0xFE)),
    ([0xFD, 0xCB, 0xFE, 0x6E], (.bitBAtIyD 5 0xFE)), ([0xCB, 0x6A], (.bitBR 5 .d)), ([0xCB, 0xAE], (.resBAtHl 5)),
    ([0xDD, 0xCB, 0xFE, 0xAE], (.resBAtIxD 5 0xFE)), ([0xFD, 0xCB, 0xFE, 0xAE], (.resBAtIyD 5 0xFE)),
    ([0xCB, 0xAB], (.resBR 5 .e)), ([0xCB, 0xEE], (.setBAtHl 5)), ([0xDD, 0xCB, 0xFE, 0xEE], (.setBAtIxD 5 0xFE)),
    ([0xFD, 0xCB, 0xFE, 0xEE], (.setBAtIyD 5 0xFE)), ([0xCB, 0xED], (.setBR 5 .l)), ([0xCB, 0x16], .rlAtHl),
    ([0xDD, 0xCB, 0xFE, 0x16], (.rlAtIxD 0xFE)), ([0xFD, 0xCB, 0xFE, 0x16], (.rlAtIyD 0xFE)),
    ([0xCB, 0x10], (.rlR .b)), ([0xCB, 0x06], .rlcAtHl), ([0xDD, 0xCB, 0xFE, 0x06], (.rlcAtIxD 0xFE)),
    ([0xFD, 0xCB, 0xFE, 0x06], (.rlcAtIyD 0xFE)), ([0xCB, 0x07], (.rlcR .a)), ([0xCB, 0x1E], .rrAtHl),
    ([0xDD, 0xCB, 0xFE, 0x1E], (.rrAtIxD 0xFE)), ([0xFD, 0xCB, 0xFE, 0x1E], (.rrAtIyD 0xFE)),
    ([0xCB, 0x19], (.rrR .c)), ([0xCB, 0x0E], .rrcAtHl), ([0xDD, 0xCB, 0xFE, 0x0E], (.rrcAtIxD 0xFE)),
    ([0xFD, 0xCB, 0xFE, 0x0E], (.rrcAtIyD 0xFE)), ([0xCB, 0x0C], (.rrcR .h)), ([0xCB, 0x26], .slaAtHl),
    ([0xDD, 0xCB, 0xFE, 0x26], (.slaAtIxD 0xFE)), ([0xFD, 0xCB, 0xFE, 0x26], (.slaAtIyD 0xFE)),
    ([0xCB, 0x22], (.slaR .d)), ([0xCB, 0x2E], .sraAtHl), ([0xDD, 0xCB, 0xFE, 0x2E], (.sraAtIxD 0xFE)),
    ([0xFD, 0xCB, 0xFE, 0x2E], (.sraAtIyD 0xFE)), ([0xCB, 0x2B], (.sraR .e)), ([0xCB, 0x3E], .srlAtHl),
    ([0xDD, 0xCB, 0xFE, 0x3E], (.srlAtIxD 0xFE)), ([0xFD, 0xCB, 0xFE, 0x3E], (.srlAtIyD 0xFE)),
    ([0xCB, 0x3D], (.srlR .l))] :
    List (List Byte × Instr)).all (fun x => reads .r3000 x && reads .r3000A x) = true := by decide

theorem test_decode_prefix_block : ([
    ([0x76], .altd), ([0xD3], .ioi), ([0xDB], .ioe), ([0xED, 0xA8], .ldd), ([0xED, 0xB8], .lddr),
    ([0xED, 0xA0], .ldi), ([0xED, 0xB0], .ldir)] :
    List (List Byte × Instr)).all (fun x => reads .r3000 x && reads .r3000A x) = true := by decide

theorem test_decode_control : ([
    ([0xCD, 0x23, 0x81], (.callMn 0x8123)), ([0x10, 0x80], (.djnzE 0x80)), ([0xE9], .jpAtHl),
    ([0xDD, 0xE9], .jpAtIx), ([0xFD, 0xE9], .jpAtIy), ([0xD2, 0x23, 0x81], (.jpFMn .nc 0x8123)),
    ([0xC3, 0x23, 0x81], (.jpMn 0x8123)), ([0x20, 0x80], (.jrCcE .nz 0x80)), ([0x18, 0x80], (.jrE 0x80)),
    ([0xCF, 0x23, 0x81, 0x9C], (.lcallXMn 0x9C 0x8123)), ([0xC7, 0x23, 0x81, 0x9C], (.ljpXMn 0x9C 0x8123)),
    ([0xED, 0x45], .lret), ([0xC9], .ret), ([0xD0], (.retF .nc)), ([0xED, 0x4D], .reti), ([0xEF], (.rstV .v28))] :
    List (List Byte × Instr)).all (fun x => reads .r3000 x && reads .r3000A x) = true := by decide

theorem test_decode_misc : ([
    ([0x3F], .ccf), ([0xED, 0x46], .ipset0), ([0xED, 0x56], .ipset1), ([0xED, 0x4E], .ipset2),
    ([0xED, 0x5E], .ipset3), ([0xED, 0x5D], .ipres), ([0x00], .nop), ([0x37], .scf)] :
    List (List Byte × Instr)).all (fun x => reads .r3000 x && reads .r3000A x) = true := by decide

theorem test_decode_r3000A : ([
    ([0xED, 0xC0], .uma), ([0xED, 0xC8], .ums), ([0xED, 0x98], .lddsr), ([0xED, 0x90], .ldisr),
    ([0xED, 0xF8], .lsdr), ([0xED, 0xF0], .lsir), ([0xED, 0xD8], .lsddr), ([0xED, 0xD0], .lsidr),
    ([0xED, 0x6F], .setusr), ([0xED, 0x66], .pushSu), ([0xED, 0x6E], .popSu), ([0xED, 0x7D], .sures),
    ([0x5B], .idet), ([0xED, 0x7F], .rdmode), ([0xED, 0x75], .syscall)] :
    List (List Byte × Instr)).all (fun x => reads .r3000A x) = true := by decide

/-- Another map moves the added instructions, and no map takes a slot the spec assigns (log 12). -/
theorem test_decode_other_map : (match decode .r3000A [(.uma, 0xC9)] [0xED, 0xC9] with | .ok (i, _) => decide (i = .uma) | .error _ => false) = true ∧
    encode [(.uma, 0xC9)] .uma = [0xED, 0xC9] ∧ OpcodeMap.ok [(.uma, 0x4A)] = false ∧ OpcodeMap.ok [(.uma, 0xC9), (.ums, 0xC9)] = false ∧
    OpcodeMap.ok [] = true ∧ OpcodeMap.ok .default = true := by decide

theorem test_decode_rejects : rejects .r3000 [0xED, 0xC0] "ED" 0xC0 = true ∧ rejects .r3000A [0xCB, 0x36] "CB" 0x36 = true ∧
    reads .r3000 ([0x5B], .ldRG .e .e) = true := by decide

theorem test_decodeTableWord : decodeTableWord 32 0xDD213412 = some (.ldIxMn 0x1234) ∧
    decodeTableWord 8 0x00 = some .nop := by decide

/-! Steps: the results are those of `95_test_vectors.md` -/

/-- A machine with 1 MB of RAM everywhere and the stack at 0xDFF0, about to fetch `bs` at 0x1000. -/
def machine (rev : Rev) (bs : List Byte) (mem : List Host.Cell) (c : Cpu → Cpu) : State :=
  let s := State.reset
  { s with
    cfg := { s.cfg with rev := rev }
    cpu := c { s.cpu with pc := 0x1000, sp := 0xDFF0, ip := 0 }
    dev := { s.dev with mmu := { s.dev.mmu with mbcr := Vector.replicate 4 0 } }
    mem := (bs.zipIdx.map fun x => (0x1000 + x.2, x.1)).foldl (fun m x => cellWrite m x.1 x.2) mem }

/-- Whether a step gives a next state with this property. -/
def gives (s : State) (p : State → Bool) : Bool :=
  match step s with
  | .next t => p t
  | .fault _ => false
  | .refused _ => false

/-- F with these S, Z, L/V and C. -/
def flags (f : Byte) : List Bool := [flagS f, flagZ f, flagLv f, flagC f]

theorem test_add_a_n : gives (machine .r3000 [0xC6, 0x01] []
    (fun c => { c with main := { c.main with a := 0x7F } })) (fun t =>
    flags t.cpu.main.f == [true, false, true, false] && t.cpu.main.a == 0x80) = true := by decide

theorem test_adc_a_n : gives (machine .r3000 [0xCE, 0x00] []
    (fun c => { c with main := { c.main with a := 0xFF, f := 0x01 } })) (fun t =>
    flags t.cpu.main.f == [false, true, false, true] && t.cpu.main.a == 0x00) = true := by decide

theorem test_sub_n : gives (machine .r3000 [0xD6, 0x06] []
    (fun c => { c with main := { c.main with a := 0x05 } })) (fun t =>
    flags t.cpu.main.f == [true, false, false, false] && t.cpu.main.a == 0xFF) = true := by decide

theorem test_sbc_a_a : gives (machine .r3000 [0x9F] []
    (fun c => { c with main := { c.main with a := 0x33, f := 0x01 } })) (fun t =>
    flags t.cpu.main.f == [true, false, false, true] && t.cpu.main.a == 0xFF) = true := by decide

theorem test_cp_n : gives (machine .r3000 [0xFE, 0x05] []
    (fun c => { c with main := { c.main with a := 0x05 } })) (fun t =>
    flags t.cpu.main.f == [false, true, false, false] && t.cpu.main.a == 0x05) = true := by decide

theorem test_and_n : gives (machine .r3000 [0xE6, 0x0F] []
    (fun c => { c with main := { c.main with a := 0xF0, f := 0x01 } })) (fun t =>
    flags t.cpu.main.f == [false, true, false, false] && t.cpu.main.a == 0x00) = true := by decide

theorem test_or_n : gives (machine .r3000 [0xF6, 0x10] []
    (fun c => { c with main := { c.main with a := 0x00, f := 0x01 } })) (fun t =>
    flags t.cpu.main.f == [false, false, true, false] && t.cpu.main.a == 0x10) = true := by decide

theorem test_xor_a : gives (machine .r3000 [0xAF] []
    (fun c => { c with main := { c.main with a := 0x5A, f := 0xFF } })) (fun t =>
    flags t.cpu.main.f == [false, true, false, false] && t.cpu.main.a == 0x00) = true := by decide

theorem test_inc_a : gives (machine .r3000 [0x3C] []
    (fun c => { c with main := { c.main with a := 0x7F, f := 0x01 } })) (fun t =>
    flags t.cpu.main.f == [true, false, true, true] && t.cpu.main.a == 0x80) = true := by decide

theorem test_dec_a : gives (machine .r3000 [0x3D] []
    (fun c => { c with main := { c.main with a := 0x80, f := 0x01 } })) (fun t =>
    flags t.cpu.main.f == [false, false, true, true] && t.cpu.main.a == 0x7F) = true := by decide

theorem test_neg : gives (machine .r3000 [0xED, 0x44] []
    (fun c => { c with main := { c.main with a := 0x80 } })) (fun t =>
    flags t.cpu.main.f == [true, false, true, true] && t.cpu.main.a == 0x80) = true := by decide

theorem test_cpl : gives (machine .r3000 [0x2F] []
    (fun c => { c with main := { c.main with a := 0x5A, f := 0xC5 } })) (fun t =>
    t.cpu.main.a == 0xA5 && t.cpu.main.f == 0xC5) = true := by decide

theorem test_rla : gives (machine .r3000 [0x17] []
    (fun c => { c with main := { c.main with a := 0x80, f := 0x40 } })) (fun t =>
    flags t.cpu.main.f == [false, true, false, true] && t.cpu.main.a == 0x00) = true := by decide

theorem test_rra : gives (machine .r3000 [0x1F] []
    (fun c => { c with main := { c.main with a := 0x01, f := 0x01 } })) (fun t =>
    flags t.cpu.main.f == [false, false, false, true] && t.cpu.main.a == 0x80) = true := by decide

theorem test_rlca : gives (machine .r3000 [0x07] []
    (fun c => { c with main := { c.main with a := 0x81 } })) (fun t =>
    flags t.cpu.main.f == [false, false, false, true] && t.cpu.main.a == 0x03) = true := by decide

theorem test_rrca : gives (machine .r3000 [0x0F] []
    (fun c => { c with main := { c.main with a := 0x01 } })) (fun t =>
    flags t.cpu.main.f == [false, false, false, true] && t.cpu.main.a == 0x80) = true := by decide

theorem test_altd_add_a_n : gives (machine .r3000 [0xC6, 0x01] []
    (fun c => { c with main := { c.main with a := 0xFF, f := 0x00 }, alt := { c.alt with a := 0x77, f := 0x00 }, altd := true })) (fun t =>
    t.cpu.main.a == 0xFF && t.cpu.alt.a == 0x00 && t.cpu.main.f == 0x00 && t.cpu.alt.f == 0x41) = true := by decide

theorem test_altd_cp_n : gives (machine .r3000 [0xFE, 0x06] []
    (fun c => { c with main := { c.main with a := 0x05, f := 0x00 }, alt := { c.alt with a := 0x77, f := 0x00 }, altd := true })) (fun t =>
    t.cpu.main.a == 0x05 && t.cpu.alt.a == 0x77 && t.cpu.main.f == 0x00 && t.cpu.alt.f == 0x81) = true := by decide

theorem test_altd_adc_a_n_carry_in_from_main_f : gives (machine .r3000 [0xCE, 0x00] []
    (fun c => { c with main := { c.main with a := 0x01, f := 0x01 }, alt := { c.alt with a := 0x77, f := 0x00 }, altd := true })) (fun t =>
    t.cpu.main.a == 0x01 && t.cpu.alt.a == 0x02 && t.cpu.main.f == 0x01 && t.cpu.alt.f == 0x00) = true := by decide

theorem test_add_hl_hl : gives (machine .r3000 [0x29] []
    (fun c => { c with main := { c.main with h := 0x80, l := 0x00, f := 0x40 } })) (fun t =>
    flags t.cpu.main.f == [false, true, false, true] && t.cpu.main.hl == 0x0000) = true := by decide

theorem test_adc_hl_bc : gives (machine .r3000 [0xED, 0x4A] []
    (fun c => { c with main := { c.main with h := 0x7F, l := 0xFF, b := 0x00, c := 0x00, f := 0x01 } })) (fun t =>
    flags t.cpu.main.f == [true, false, true, false] && t.cpu.main.hl == 0x8000) = true := by decide

theorem test_sbc_hl_de : gives (machine .r3000 [0xED, 0x52] []
    (fun c => { c with main := { c.main with h := 0x00, l := 0x05, d := 0x00, e := 0x06, f := 0x00 } })) (fun t =>
    flags t.cpu.main.f == [true, false, false, true] && t.cpu.main.hl == 0xFFFF) = true := by decide

theorem test_and_hl_de : gives (machine .r3000 [0xDC] []
    (fun c => { c with main := { c.main with h := 0xFF, l := 0xFF, d := 0x0F, e := 0xFF, f := 0x01 } })) (fun t =>
    flags t.cpu.main.f == [false, false, false, false] && t.cpu.main.hl == 0x0FFF) = true := by decide

theorem test_or_hl_de : gives (machine .r3000 [0xEC] []
    (fun c => { c with main := { c.main with h := 0x10, l := 0x00, d := 0x00, e := 0x01, f := 0x01 } })) (fun t =>
    flags t.cpu.main.f == [false, false, true, false] && t.cpu.main.hl == 0x1001) = true := by decide

theorem test_bool_hl : gives (machine .r3000 [0xCC] []
    (fun c => { c with main := { c.main with h := 0x80, l := 0x00, f := 0xFF } })) (fun t =>
    flags t.cpu.main.f == [false, false, false, false] && t.cpu.main.hl == 0x0001) = true := by decide

theorem test_altd_bool_hl : gives (machine .r3000 [0xCC] []
    (fun c => { c with main := { c.main with h := 0x12, l := 0x34, f := 0x01 }, alt := { c.alt with h := 0x55, l := 0x55, f := 0x85 }, altd := true })) (fun t =>
    t.cpu.main.hl == 0x1234 && t.cpu.alt.hl == 0x0001 && t.cpu.main.f == 0x01 && t.cpu.alt.f == 0x00) = true := by decide

theorem test_rl_de : gives (machine .r3000 [0xF3] []
    (fun c => { c with main := { c.main with d := 0x80, e := 0x01, f := 0x00 } })) (fun t =>
    flags t.cpu.main.f == [false, false, false, true] && t.cpu.main.de == 0x0002) = true := by decide

theorem test_rr_de : gives (machine .r3000 [0xFB] []
    (fun c => { c with main := { c.main with d := 0x00, e := 0x01, f := 0x00 } })) (fun t =>
    flags t.cpu.main.f == [false, true, false, true] && t.cpu.main.de == 0x0000) = true := by decide

theorem test_inc_hl : gives (machine .r3000 [0x23] []
    (fun c => { c with main := { c.main with h := 0xFF, l := 0xFF, f := 0x00 } })) (fun t =>
    flags t.cpu.main.f == [false, false, false, false] && t.cpu.main.hl == 0x0000) = true := by decide

theorem test_dec_bc : gives (machine .r3000 [0x0B] []
    (fun c => { c with main := { c.main with b := 0x00, c := 0x00, f := 0x00 } })) (fun t =>
    flags t.cpu.main.f == [false, false, false, false] && t.cpu.main.bc == 0xFFFF) = true := by decide

theorem test_mul : gives (machine .r3000 [0xF7] []
    (fun c => { c with main := { c.main with b := 0x80, c := 0x00, d := 0x80, e := 0x00, f := 0xC5 } })) (fun t =>
    t.cpu.main.hl == 0x4000 && t.cpu.main.bc == 0x0000 && t.cpu.main.de == 0x8000 && t.cpu.main.f == 0xC5) = true := by decide

theorem test_ld_a_n : gives (machine .r3000 [0x3E, 0x03] []
    (id)) (fun t =>
    t.cpu.main.a == 0x03) = true := by decide

theorem test_altd_ld_h_n_ld_ha_ah : gives (machine .r3000 [0x26, 0x4A] []
    (fun c => { c with main := { c.main with h := 0x11, l := 0x11 }, alt := { c.alt with h := 0x22, l := 0x22 }, altd := true })) (fun t =>
    t.cpu.main.h == 0x11 && t.cpu.alt.hl == 0x4A22) = true := by decide

theorem test_ld_hl_mn : gives (machine .r3000 [0x21, 0xC8, 0x01] []
    (id)) (fun t =>
    t.cpu.main.hl == 0x01C8) = true := by decide

theorem test_altd_ld_bc_mn_ld_bca : gives (machine .r3000 [0x01, 0xEF, 0x0D] []
    (fun c => { c with main := { c.main with b := 0x11, c := 0x11 }, altd := true })) (fun t =>
    t.cpu.main.bc == 0x1111 && t.cpu.alt.bc == 0x0DEF) = true := by decide

theorem test_ld_a_mn : gives (machine .r3000 [0x3A, 0x00, 0x80] [(0x8000, 0x5A)]
    (id)) (fun t =>
    t.cpu.main.a == 0x5A) = true := by decide

theorem test_altd_ld_a_mn : gives (machine .r3000 [0x3A, 0x00, 0x80] [(0x8000, 0x5A)]
    (fun c => { c with main := { c.main with a := 0x11 }, altd := true })) (fun t =>
    t.cpu.main.a == 0x11 && t.cpu.alt.a == 0x5A) = true := by decide

theorem test_ld_mn_hl : gives (machine .r3000 [0x22, 0xFF, 0x7F] []
    (fun c => { c with main := { c.main with h := 0xBE, l := 0xEF } })) (fun t =>
    t.peek 0x7FFF == 0xEF && t.peek 0x8000 == 0xBE) = true := by decide

theorem test_ld_hl_mn_at_xffff_wraps : gives (machine .r3000 [0x2A, 0xFF, 0xFF] [(0x0000, 0x12), (0xFFFF, 0x34)]
    (id)) (fun t =>
    t.cpu.main.hl == 0x1234) = true := by decide

theorem test_ld_mn_sp : gives (machine .r3000 [0xED, 0x73, 0x00, 0x80] []
    (id)) (fun t =>
    t.peek 0x8000 == 0xF0 && t.peek 0x8001 == 0xDF) = true := by decide

theorem test_altd_ld_d_b_ld_da_b : gives (machine .r3000 [0x50] []
    (fun c => { c with main := { c.main with b := 0x77, d := 0x11, e := 0x11 }, alt := { c.alt with d := 0x22, e := 0x22 }, altd := true })) (fun t =>
    t.cpu.main.d == 0x11 && t.cpu.alt.de == 0x7722) = true := by decide

theorem test_ldp_hl_hl : gives (machine .r3000 [0xED, 0x6C] [(0x20000, 0x12), (0x2FFFF, 0x34)]
    (fun c => { c with main := { c.main with a := 0x12, h := 0xFF, l := 0xFF } })) (fun t =>
    t.cpu.main.hl == 0x1234) = true := by decide

theorem test_ldp_hl_hl_2 : gives (machine .r3000 [0xED, 0x64] []
    (fun c => { c with main := { c.main with a := 0xF5, h := 0x12, l := 0x34 } })) (fun t =>
    cellRead t.mem 0x51234 == 0x34 && cellRead t.mem 0x51235 == 0x12) = true := by decide

theorem test_ldp_mn_ix : gives (machine .r3000 [0xDD, 0x65, 0x00, 0x80] []
    (fun c => { c with ix := 0xBEEF, main := { c.main with a := 0x03 } })) (fun t =>
    cellRead t.mem 0x38000 == 0xEF && cellRead t.mem 0x38001 == 0xBE) = true := by decide

theorem test_ldp_iy_mn : gives (machine .r3000 [0xFD, 0x6D, 0x00, 0x80] [(0x38000, 0xEF), (0x38001, 0xBE)]
    (fun c => { c with main := { c.main with a := 0x03 } })) (fun t =>
    t.cpu.iy == 0xBEEF) = true := by decide

theorem test_push_bc : gives (machine .r3000 [0xC5] []
    (fun c => { c with main := { c.main with b := 0xBE, c := 0xEF } })) (fun t =>
    t.cpu.sp == 0xDFEE && t.peek 0xDFEF == 0xBE && t.peek 0xDFEE == 0xEF) = true := by decide

theorem test_pop_af : gives (machine .r3000 [0xF1] [(0xDFEE, 0x41), (0xDFEF, 0x99)]
    (fun c => { c with sp := 0xDFEE })) (fun t =>
    t.cpu.main.a == 0x99 && t.cpu.main.f == 0x41 && t.cpu.sp == 0xDFF0) = true := by decide

theorem test_altd_pop_de_pop_dea : gives (machine .r3000 [0xD1] [(0xDFEE, 0x34), (0xDFEF, 0x12)]
    (fun c => { c with sp := 0xDFEE, main := { c.main with d := 0x11, e := 0x11 }, altd := true })) (fun t =>
    t.cpu.main.de == 0x1111 && t.cpu.alt.de == 0x1234 && t.cpu.sp == 0xDFF0) = true := by decide

theorem test_ex_sp_hl : gives (machine .r3000 [0xED, 0x54] [(0xDFEE, 0x78), (0xDFEF, 0x56)]
    (fun c => { c with sp := 0xDFEE, main := { c.main with h := 0x12, l := 0x34 } })) (fun t =>
    t.cpu.main.hl == 0x5678 && t.peek 0xDFEE == 0x34 && t.peek 0xDFEF == 0x12) = true := by decide

theorem test_exx : gives (machine .r3000 [0xD9] []
    (fun c => { c with main := { c.main with b := 0x00, c := 0x01, d := 0x00, e := 0x02, h := 0x00, l := 0x03 }, alt := { c.alt with b := 0x00, c := 0x04, d := 0x00, e := 0x05, h := 0x00, l := 0x06 } })) (fun t =>
    t.cpu.main.bc == 0x0004 && t.cpu.main.de == 0x0005 && t.cpu.main.hl == 0x0006 && t.cpu.alt.bc == 0x0001 && t.cpu.alt.de == 0x0002 && t.cpu.alt.hl == 0x0003) = true := by decide

theorem test_bit_a : gives (machine .r3000 [0xCB, 0x7F] []
    (fun c => { c with main := { c.main with a := 0x80, f := 0xFF } })) (fun t =>
    flags t.cpu.main.f == [true, false, true, true]) = true := by decide

theorem test_set_b : gives (machine .r3000 [0xCB, 0xF8] []
    (fun c => { c with main := { c.main with b := 0x00 } })) (fun t =>
    t.cpu.main.b == 0x80) = true := by decide

theorem test_altd_set_b : gives (machine .r3000 [0xCB, 0xF8] []
    (fun c => { c with main := { c.main with b := 0x00 }, alt := { c.alt with b := 0x11, c := 0x11 }, altd := true })) (fun t =>
    t.cpu.main.b == 0x00 && t.cpu.alt.bc == 0x8011) = true := by decide

theorem test_res_l : gives (machine .r3000 [0xCB, 0x8D] []
    (fun c => { c with main := { c.main with h := 0x00, l := 0x03 } })) (fun t =>
    t.cpu.main.hl == 0x0001) = true := by decide

theorem test_rl_e : gives (machine .r3000 [0xCB, 0x13] []
    (fun c => { c with main := { c.main with e := 0xFF, f := 0x01 } })) (fun t =>
    flags t.cpu.main.f == [true, false, true, true] && t.cpu.main.e == 0xFF) = true := by decide

theorem test_rlc_b : gives (machine .r3000 [0xCB, 0x00] []
    (fun c => { c with main := { c.main with b := 0x80 } })) (fun t =>
    flags t.cpu.main.f == [false, false, false, true] && t.cpu.main.b == 0x01) = true := by decide

theorem test_rr_h : gives (machine .r3000 [0xCB, 0x1C] []
    (fun c => { c with main := { c.main with h := 0x00, f := 0x01 } })) (fun t =>
    flags t.cpu.main.f == [true, false, true, false] && t.cpu.main.h == 0x80) = true := by decide

theorem test_rrc_c : gives (machine .r3000 [0xCB, 0x09] []
    (fun c => { c with main := { c.main with c := 0x01 } })) (fun t =>
    flags t.cpu.main.f == [true, false, true, true] && t.cpu.main.c == 0x80) = true := by decide

theorem test_sla_l : gives (machine .r3000 [0xCB, 0x25] []
    (fun c => { c with main := { c.main with l := 0xFF } })) (fun t =>
    flags t.cpu.main.f == [true, false, true, true] && t.cpu.main.l == 0xFE) = true := by decide

theorem test_sra_d : gives (machine .r3000 [0xCB, 0x2A] []
    (fun c => { c with main := { c.main with d := 0xF0 } })) (fun t =>
    flags t.cpu.main.f == [true, false, true, false] && t.cpu.main.d == 0xF8) = true := by decide

theorem test_srl_a : gives (machine .r3000 [0xCB, 0x3F] []
    (fun c => { c with main := { c.main with a := 0x01 } })) (fun t =>
    flags t.cpu.main.f == [false, true, false, true] && t.cpu.main.a == 0x00) = true := by decide

theorem test_altd_rl_c : gives (machine .r3000 [0xCB, 0x11] []
    (fun c => { c with main := { c.main with c := 0x80, f := 0x01 }, alt := { c.alt with b := 0x00, c := 0x00, f := 0x00 }, altd := true })) (fun t =>
    t.cpu.main.c == 0x80 && t.cpu.alt.bc == 0x0001 && t.cpu.main.f == 0x01 && t.cpu.alt.f == 0x01) = true := by decide

theorem test_altd_rl_hl_flags_to_fa_memory_still_writ : gives (machine .r3000 [0xCB, 0x16] [(0x8000, 0x80)]
    (fun c => { c with main := { c.main with h := 0x80, l := 0x00, f := 0x00 }, alt := { c.alt with f := 0x00 }, altd := true })) (fun t =>
    t.cpu.main.f == 0x00 && t.cpu.alt.f == 0x41 && t.peek 0x8000 == 0x00) = true := by decide

theorem test_jp_mn : gives (machine .r3000 [0xC3, 0x34, 0x12] []
    (id)) (fun t =>
    t.cpu.pc == 0x1234) = true := by decide

theorem test_jr_e_to_itself : gives (machine .r3000 [0x18, 0xFE] []
    (id)) (fun t =>
    t.cpu.pc == 0x1000) = true := by decide

theorem test_djnz_b : gives (machine .r3000 [0x10, 0xFC] []
    (fun c => { c with main := { c.main with b := 0x02 } })) (fun t =>
    t.cpu.main.b == 0x01 && t.cpu.pc == 0x0FFE) = true := by decide

theorem test_altd_djnz_b_ba_written_b_unchanged_falls : gives (machine .r3000 [0x10, 0xFC] []
    (fun c => { c with main := { c.main with b := 0x01 }, alt := { c.alt with b := 0x55, c := 0x00 }, altd := true })) (fun t =>
    t.cpu.main.b == 0x01 && t.cpu.alt.bc == 0x0000) = true := by decide

theorem test_call_mn : gives (machine .r3000 [0xCD, 0x34, 0x12] []
    (id)) (fun t =>
    t.cpu.pc == 0x1234 && t.cpu.sp == 0xDFEE && t.peek 0xDFEF == 0x10 && t.peek 0xDFEE == 0x03) = true := by decide

theorem test_ret : gives (machine .r3000 [0xC9] [(0xDFEE, 0x03), (0xDFEF, 0x10)]
    (fun c => { c with sp := 0xDFEE })) (fun t =>
    t.cpu.pc == 0x1003 && t.cpu.sp == 0xDFF0) = true := by decide

theorem test_lcall : gives (machine .r3000 [0xCF, 0x00, 0xE0, 0x10] []
    (fun c => { c with xpc := 0x02 })) (fun t =>
    t.cpu.pc == 0xE000 && t.cpu.xpc == 0x10 && t.cpu.sp == 0xDFED && t.peek 0xDFEF == 0x02 && t.peek 0xDFEE == 0x10 && t.peek 0xDFED == 0x04) = true := by decide

theorem test_lret : gives (machine .r3000 [0xED, 0x45] [(0xDFED, 0x04), (0xDFEE, 0x10), (0xDFEF, 0x02)]
    (fun c => { c with sp := 0xDFED, xpc := 0x10 })) (fun t =>
    t.cpu.pc == 0x1004 && t.cpu.xpc == 0x02 && t.cpu.sp == 0xDFF0) = true := by decide

theorem test_ljp : gives (machine .r3000 [0xC7, 0x00, 0xE0, 0x80] []
    (id)) (fun t =>
    t.cpu.pc == 0xE000 && t.cpu.xpc == 0x80) = true := by decide

theorem test_rst : gives (machine .r3000 [0xD7] []
    (fun c => { c with iir := 0xE1, ip := 0x03 })) (fun t =>
    t.cpu.pc == 0xE020 && t.cpu.sp == 0xDFEE && t.cpu.ip == 0x03 && t.peek 0xDFEF == 0x10 && t.peek 0xDFEE == 0x01) = true := by decide

theorem test_reti : gives (machine .r3000 [0xED, 0x4D] [(0xDFED, 0x01), (0xDFEE, 0x34), (0xDFEF, 0x12)]
    (fun c => { c with sp := 0xDFED })) (fun t =>
    t.cpu.ip == 0x01 && t.cpu.pc == 0x1234 && t.cpu.sp == 0xDFF0) = true := by decide

theorem test_ipset : gives (machine .r3000 [0xED, 0x46] []
    (fun c => { c with ip := 0xFF })) (fun t =>
    t.cpu.ip == 0xFC) = true := by decide

theorem test_ipres : gives (machine .r3000 [0xED, 0x5D] []
    (fun c => { c with ip := 0x91 })) (fun t =>
    t.cpu.ip == 0x64) = true := by decide

theorem test_scf : gives (machine .r3000 [0x37] []
    (fun c => { c with main := { c.main with f := 0x00 } })) (fun t =>
    flags t.cpu.main.f == [false, false, false, true]) = true := by decide

theorem test_ccf : gives (machine .r3000 [0x3F] []
    (fun c => { c with main := { c.main with f := 0x01 } })) (fun t =>
    flags t.cpu.main.f == [false, false, false, false]) = true := by decide

theorem test_altd_ccf : gives (machine .r3000 [0x3F] []
    (fun c => { c with main := { c.main with f := 0x01 }, alt := { c.alt with f := 0xFF }, altd := true })) (fun t =>
    t.cpu.main.f == 0x01 && t.cpu.alt.f == 0xFE) = true := by decide

theorem test_altd_scf : gives (machine .r3000 [0x37] []
    (fun c => { c with main := { c.main with f := 0x00 }, alt := { c.alt with f := 0x00 }, altd := true })) (fun t =>
    t.cpu.main.f == 0x00 && t.cpu.alt.f == 0x01) = true := by decide

theorem test_ldi : gives (machine .r3000 [0xED, 0xA0] [(0x8000, 0x5A)]
    (fun c => { c with main := { c.main with h := 0x80, l := 0x00, d := 0x90, e := 0x00, b := 0x00, c := 0x01 } })) (fun t =>
    flags t.cpu.main.f == [false, false, true, false] && t.cpu.main.bc == 0x0000 && t.cpu.main.de == 0x9001 && t.cpu.main.hl == 0x8001 && t.peek 0x9000 == 0x5A) = true := by decide

theorem test_ldd_bc : gives (machine .r3000 [0xED, 0xA8] [(0x8000, 0x5A)]
    (fun c => { c with main := { c.main with h := 0x80, l := 0x00, d := 0x90, e := 0x00, b := 0x00, c := 0x00 } })) (fun t =>
    flags t.cpu.main.f == [false, false, false, false] && t.cpu.main.bc == 0xFFFF && t.cpu.main.de == 0x8FFF && t.cpu.main.hl == 0x7FFF) = true := by decide

theorem test_ldir_after_iteration : gives (machine .r3000 [0xED, 0xB0] [(0x8000, 0xAA)]
    (fun c => { c with main := { c.main with h := 0x80, l := 0x00, d := 0x80, e := 0x01, b := 0x00, c := 0x03 } })) (fun t =>
    flags t.cpu.main.f == [false, false, false, false] && t.cpu.main.bc == 0x0002 && t.cpu.main.de == 0x8002 && t.cpu.main.hl == 0x8001 && t.cpu.pc == 0x1000) = true := by decide

theorem test_setusr : gives (machine .r3000A [0xED, 0x6F] []
    (fun c => { c with su := 0x00 })) (fun t =>
    t.cpu.su == 0x01) = true := by decide

theorem test_sures : gives (machine .r3000A [0xED, 0x7D] []
    (fun c => { c with su := 0x04 })) (fun t =>
    t.cpu.su == 0x01) = true := by decide

theorem test_push_su : gives (machine .r3000A [0xED, 0x66] []
    (fun c => { c with su := 0x04 })) (fun t =>
    t.peek 0xDFEF == 0x04 && t.cpu.sp == 0xDFEF) = true := by decide

theorem test_pop_su : gives (machine .r3000A [0xED, 0x6E] [(0xDFEF, 0x11)]
    (fun c => { c with sp := 0xDFEF })) (fun t =>
    t.cpu.su == 0x11 && t.cpu.sp == 0xDFF0) = true := by decide

theorem test_rdmode : gives (machine .r3000A [0xED, 0x7F] []
    (fun c => { c with su := 0x01, main := { c.main with f := 0x00 } })) (fun t =>
    t.cpu.main.f == 0x01) = true := by decide

theorem test_uma_memory : gives (machine .r3000A [0xED, 0xC0] [(0x8000, 0x10), (0x8100, 0xFF)]
    (fun c => { c with ix := 0x8000, iy := 0x8100, main := { c.main with b := 0x00, c := 0x01, d := 0x00, e := 0x03, f := 0x00, h := 0x82, l := 0x00 }, alt := { c.alt with d := 0x00, e := 0x00 } })) (fun t =>
    t.peek 0x8200 == 0x0D && t.cpu.alt.de == 0x0003 && flagC t.cpu.main.f == false) = true := by decide

theorem test_uma_registers : gives (machine .r3000A [0xED, 0xC0] [(0x8000, 0x10), (0x8100, 0xFF)]
    (fun c => { c with ix := 0x8000, iy := 0x8100, main := { c.main with b := 0x00, c := 0x01, d := 0x00, e := 0x03, f := 0x00, h := 0x82, l := 0x00 }, alt := { c.alt with d := 0x00, e := 0x00 } })) (fun t =>
    t.cpu.main.bc == 0x0000 && t.cpu.ix == 0x8001 && t.cpu.iy == 0x8101 && t.cpu.main.hl == 0x8201) = true := by decide

/-! Devices and interrupts, one step each (`60_exceptions.md` R610 to R621, `61_system_management.md` R680,
`70_reset_and_hazards.md` R910) -/

/-- `machine` with its devices changed. -/
def withDev (s : State) (f : Dev → Dev) : State := { s with dev := f s.dev }

/-- A REV = R3000A machine in User mode. -/
def userMachine (bs : List Byte) (c : Cpu → Cpu) : State :=
  withDev (machine .r3000A bs [] fun x => c { x with su := 0x01 }) fun d => { d with user := { d.user with edmr := 0x01 } }

/-- A machine with Timer A's request pending at priority 2. -/
def timerPending : State :=
  withDev (machine .r3000A [0x00] [] fun c => { c with iir := 0x20, su := 0x01, altd := false }) fun d =>
    { d with timerA := { d.timerA with ien := 0x02, done := 0x02, tacr := 0x02 } }

theorem test_interrupt_taken : gives timerPending (fun t => t.cpu.pc == 0x20A0 && t.cpu.ip == 0x02 && t.cpu.su == 0x04 &&
    t.cpu.sp == 0xDFEE && t.peek 0xDFEF == 0x10 && t.peek 0xDFEE == 0x00) = true := by decide

theorem test_interrupt_waits_for_priority : gives { timerPending with cpu := { timerPending.cpu with ip := 0x02 } }
    (fun t => t.cpu.pc == 0x1001 && t.cpu.ip == 0x02) = true := by decide

theorem test_idet_user_mode : gives (userMachine [0x5B] id) (fun t => t.dev.viol.systemMode && t.cpu.pc == 0x1001) = true := by
  decide

theorem test_user_mode_io_write_ignored : gives (userMachine [0x32, 0x10, 0x00] fun c =>
    { c with iospace := .internal, main := { c.main with a := 0x77 } }) (fun t => t.dev.mmu.mmidr == 0x00) = true := by decide

theorem test_system_mode_io_write : gives (machine .r3000A [0x32, 0x12, 0x00] [] fun c =>
    { c with iospace := .internal, main := { c.main with a := 0x77 } }) (fun t => t.dev.mmu.dataseg == 0x77) = true := by
  decide

theorem test_reset_runs_first_instruction : gives (State.reset.withFetchWord 16 0x3E5A) (fun t => t.cpu.main.a == 0x5A) = true := by
  decide

theorem test_delivery_of_time : gives { State.reset with inbox := [(0, .clk32k 5)] } (fun t => t.dev.rtc.count == 5) = true := by
  decide

/-- A machine whose boot ROM has control, with these SMODE pins. -/
def plainBoot (smode : BitVec 2) : State :=
  withDev (machine .r3000A [] [] id) fun d => { d with smode := smode, boot := ⟨true, smode, []⟩ }

/-- A state with an event to deliver now. -/
def sent (s : State) (e : HostEvent) : State := { s with inbox := [(0, e)] }

/-- A reset inside PUSH BC: the byte under way is written, the other is not (`70_reset_and_hazards.md` R900). -/
theorem test_reset_inside_push : gives (sent (machine .r3000 [0xC5] [] fun c => { c with main := { c.main with b := 0xBE, c := 0xEF } }) (.resetInside 1))
    (fun t => cellRead t.mem 0xDFEF == 0xBE && cellRead t.mem 0xDFEE == 0x00 && t.cpu.pc == 0 && t.cpu.sp == 0) = true := by decide

/-- Timer B's count goes from 0FF to 100 between the two byte reads of a 16-bit read: its high bits read before, its low bits
after (`20_memory.md` R67, `63_timers_capture_pwm_qd.md` R785). -/
theorem test_torn_read : gives (withDev (machine .r3000 [0x2A, 0xBE, 0x00] [] fun c => { c with iospace := .internal }) fun d =>
    { d with inside := 2, timerB := { d.timerB with run := true, count := 0x0FF } })
    (fun t => t.cpu.main.l == 0x00 && t.cpu.main.h == 0x00 && t.dev.inside == 0) = true := by decide

/-- The boot ROM reads what the master wrote to SPD0R (`64_serial_slave.md` R877). -/
theorem test_boot_reads_slave_port : gives (withDev (plainBoot 1) fun d => { d with slave := d.slave.masterWrite 0 0x5A })
    (fun t => t.dev.boot.bytes == [0x5A] && !bit t.dev.slave.spsr 4) = true := by decide

/-- With SMODE = 11 a character of Serial Port A is the next boot byte; with SMODE = 01 it is not
(`70_reset_and_hazards.md` R910). -/
theorem test_boot_reads_serial_port : gives (sent (plainBoot 3) (.serialChar .a 0x5A false)) (fun t => t.dev.boot.bytes == [0x5A]) = true ∧
    gives (sent (plainBoot 1) (.serialChar .a 0x5A false)) (fun t => t.dev.boot.bytes == [] && (t.dev.ser .a).rxFull) = true := by decide

/-- A character that comes after the triplet 80 24 80 is no boot byte (`70_reset_and_hazards.md` R910). -/
theorem test_boot_ended_by_spcr : let s := withDev (plainBoot 3) fun d => { d with slave := { d.slave with ignoreSmode := true } }
    gives (sent s (.serialChar .a 0x5A false)) (fun t => t.dev.boot.bytes == [] && (t.dev.ser .a).rxFull) = true ∧
    gives s (fun t => !t.dev.boot.active) = true := by decide

/-- The master reaches the slave port only while /SCS, the level on PE7, is low (`62_ports_io_banks.md` R726). -/
theorem test_slave_needs_chip_select : gives (sent (withDev (machine .r3000A [] [] id) fun d => { d with
      slave := { d.slave with mode := 2 }, pins := { d.pins with e := 0x80 } }) (.masterWrite 0 0x5A)) (fun t => !t.dev.slave.req) = true ∧
    gives (sent (withDev (machine .r3000A [] [] id) fun d => { d with
      slave := { d.slave with mode := 2 }, pins := { d.pins with e := 0x00 } }) (.masterWrite 0 0x5A)) (fun t => t.dev.slave.req) = true := by decide

/-- An inhibited external write still puts its byte on the data lines (`62_ports_io_banks.md` R741). -/
theorem test_inhibited_external_write : gives (machine .r3000A [0x32, 0x00, 0x20] [] fun c =>
    { c with iospace := .external, main := { c.main with a := 0x77 } })
    (fun t => t.dev.outLog == [.extWriteInhibited .memory 0x2000 false 0x77]) = true := by decide

/-- A frame of one byte written through SELR in answer to the CRC: the Flag behind the CRC raises no interrupt, and the frame's
own closing Flag raises its own, with cause 11, though a byte is written while it is sent (`64_serial_slave.md` R837). -/
theorem test_flag_after_crc : let p := { State.reset.dev.ser .e with cr := 0x08, tx := .crc true }
    let frame := ((p.afterMark Params.default .e).putTx Params.default .e ⟨0x55, .longStop⟩ false).afterMark Params.default .e
    let last := ((frame.afterByte Params.default .e ⟨0x55, .longStop⟩).putTx Params.default .e ⟨0x66, .data⟩ false).afterMark
      Params.default .e
    frame.txReq = false ∧ frame.tx = .character ⟨0x55, .longStop⟩ ∧ last.txReq = true ∧ last.txCause = 3 := by decide

/-- A byte whose send code comes after the match pulse of a reception waits for a match pulse of its own
(`64_serial_slave.md` R845). -/
theorem test_synchronised_burst : let p := { State.reset.dev.ser .a with cr := 0x0C, er := 0x80, recvCode := true, txd := some ⟨0x55, .data⟩ }
    let q := (p.onMatch true false).writeControl Params.default .a 0x8C
    (p.onMatch false true).burst = none ∧ q.burst = some ⟨true, false⟩ ∧ q.tx = .character ⟨0x55, .data⟩ ∧
    ({ q with burst := none }.onMatch true false).burst = some ⟨false, true⟩ := by decide

/-- A byte that clocked mode left in the buffer without a send code goes out once the port is asynchronous
(`64_serial_slave.md` R851). -/
theorem test_async_takes_waiting_byte : let p := { State.reset.dev.ser .c with cr := 0x0C, txd := some ⟨0x55, .data⟩ }
    let q := p.writeControl Params.default .c 0x00
    q.tx = .character ⟨0x55, .data⟩ ∧ q.txd = none ∧ q.txReq = true := by decide

/-- With the internal clock a receive code stored during a burst that receives is not taken (`64_serial_slave.md` R854). -/
theorem test_receive_not_double_buffered : let p := { State.reset.dev.ser .a with cr := 0x0C }
    let q := (p.writeControl Params.default .a 0x4C).writeControl Params.default .a 0x4C
    q.burst = some ⟨true, false⟩ ∧ q.recvCode = false := by decide

/-- 40 arms in the byte-increment function too (`61_system_management.md` R681). -/
theorem test_rtc_armed_again : let r := ({ State.reset.dev.rtc with count := 5, mode := .byteIncrement }).command 0x40
    r.mode = .armed ∧ r.count = 5 ∧ (r.command 0x80).count = 0 := by decide

/-- Timer A4 is the baud clock of Serial Port A: its output pulse counts there and on no other port; with the timer's clock off
none does (`63_timers_capture_pwm_qd.md` R777). -/
theorem test_baud_clock : let p := { State.reset.dev.ser .a with tx := .character ⟨0x55, .data⟩ }
    let d := fun run => { (State.reset.dev.setSer .a p).setSer .b p with
      timerA := { State.reset.dev.timerA with run := run, tapr0 := false, count := (Vector.replicate 10 1).set 3 0 } }
    ((perclkTick Params.default (d true)).ser .a).baud = 1 ∧ ((perclkTick Params.default (d true)).ser .b).baud = 0 ∧
    ((perclkTick Params.default (d false)).ser .a).baud = 0 := by decide

/-- A character of ten bits ends after 80 pulses with SxER[2] = 1, an address byte after 88 (`64_serial_slave.md` R850, R851). -/
theorem test_character_length : let p := { State.reset.dev.ser .a with er := 0x04 }
    let d := fun k n => State.reset.dev.setSer .a { p with tx := .character ⟨0x55, k⟩, baud := n }
    let after := fun k n => (serialPulse Params.default (d k n) .a).ser .a
    (after .data 78).tx = .character ⟨0x55, .data⟩ ∧ (after .data 79).tx = .idle ∧ (after .data 79).txReq = true ∧
    (after .address 86).tx = .character ⟨0x55, .address⟩ ∧ (after .address 87).tx = .idle := by decide

/-- A burst of the internal clock ends after 16 pulses with the levels of the receive pin, here PC7 high
(`64_serial_slave.md` R850, R854). -/
theorem test_internal_burst : let d := { State.reset.dev.setSer .a { State.reset.dev.ser .a with cr := 0x0C, burst := some ⟨true, false⟩, baud := 14, rxShift := 0x6E } with
      pins := { State.reset.dev.pins with c := 0x80 } }
    let e := serialPulse Params.default d .a
    let f := serialPulse Params.default e .a
    (e.ser .a).rxShift = 0x6E ∧ (e.ser .a).rxFull = false ∧ (f.ser .a).rxFull = true ∧ (f.ser .a).rx.data = 0xB7 := by decide

/-- A bit clocked in while the receiver input is disabled is a one, though the line is low, also where the input is enabled again
before the burst ends (`64_serial_slave.md` R846). -/
theorem test_disabled_input_reads_ones : let p := { State.reset.dev.ser .a with cr := 0x2C, burst := some ⟨true, false⟩, baud := 1 }
    let x := { State.reset.dev.ser .a with cr := 0x28, recvCode := true }
    let e := serialClockEvent Params.default (State.reset.dev.setSer .a x) .a false
    let f := serialBurstEvent Params.default (e.setSer .a { e.ser .a with cr := 0x08 }) .a 0x54
    ((serialPulse Params.default (State.reset.dev.setSer .a p) .a).ser .a).rxShift = 0x80 ∧
    (e.ser .a).rxFull = false ∧ (f.ser .a).rxFull = true ∧ (f.ser .a).rx.data = 0x55 := by decide

/-- With SxER[5:4] = 01 the byte is ready on the rising edge of the last clock, its first, and the burst ends with the second
(`64_serial_slave.md` R854). -/
theorem test_ready_on_last_rising_edge : let p := { State.reset.dev.ser .a with cr := 0x0C, er := 0x10, burst := some ⟨true, false⟩, baud := 14, rxShift := 0x6E }
    let d := { State.reset.dev.setSer .a p with pins := { State.reset.dev.pins with c := 0x80 } }
    let e := serialPulse Params.default d .a
    let f := serialPulse Params.default e .a
    (e.ser .a).rxFull = true ∧ (e.ser .a).rx.data = 0xB7 ∧ (e.ser .a).burst.isSome = true ∧ (f.ser .a).burst = none ∧
    (f.ser .a).rxWait = [] := by decide

/-- Code 11 stored while a byte is sent: both transfers happen in the next burst (`64_serial_slave.md` R854). -/
theorem test_full_duplex_next_burst : let p := { State.reset.dev.ser .a with cr := 0x0C, txd := some ⟨0x55, .data⟩ }
    let q := (p.writeControl Params.default .a 0x8C).putTx Params.default .a ⟨0x66, .data⟩ false
    let d := State.reset.dev.setSer .a (q.writeControl Params.default .a 0xCC)
    let e := serialBurstEnd Params.default d .a 0x99
    (d.ser .a).burst = some ⟨false, true⟩ ∧ (e.ser .a).rxFull = false ∧ (e.ser .a).burst = some ⟨true, true⟩ ∧
    ((serialBurstEnd Params.default e .a 0x77).ser .a).rx.data = 0x77 := by decide

/-- While a byte is sent its line is a waveform; then the transmitter holds the last bit sent, bit 7, but no bit of a byte cut
short (`64_serial_slave.md` R854). -/
theorem test_last_bit_held : let p := { State.reset.dev.ser .a with cr := 0x0C }
    let d := fun v => State.reset.dev.setSer .a ((p.putTx Params.default .a ⟨v, .data⟩ false).writeControl Params.default .a 0x8C)
    let e := fun v => serialBurstEnd Params.default (d v) .a 0x00
    txLevel (d 0x7F) .a = none ∧ txLevel (e 0x7F) .a = some false ∧ txLevel (e 0x80) .a = some true ∧
    txLevel ((d 0x80).setSer .a (((d 0x80).ser .a).writeExtended Params.default .a 0x02)) .a = none := by decide

/-- An Abort acts at the end of the first CRC byte, with no interrupt for the CRC, and at the end of an opening Flag, before the
first byte of the frame (`64_serial_slave.md` R857). -/
theorem test_abort_at_byte_boundary : let p := { State.reset.dev.ser .e with cr := 0x08, tx := .crc false }
    let q := p.abort.afterMark Params.default .e
    let r := { State.reset.dev.ser .e with cr := 0x08 }.putTx Params.default .e ⟨0x55, .data⟩ false
    q.tx = .abort ∧ q.txReq = false ∧ r.tx = .openingFlag false ∧ (r.afterMark Params.default .e).tx = .character ⟨0x55, .data⟩ ∧
    (r.abort.afterMark Params.default .e).tx = .abort := by decide

/-- After an overrun at a start bit exactly one of two characters is read: the waiting one, and the one arriving is lost, or the
other way about (`64_serial_slave.md` R852, U5). -/
theorem test_overrun_at_start : let p := { State.reset.dev.ser .a with rxFull := true, rxWait := [⟨0x11, false, false, false⟩] }
    let d := fun keepOld => State.reset.dev.setSer .a ((p.overrunAtStart keepOld).takeRx 0)
    let e := fun keepOld => (serialComplete Params.default (d keepOld) .a ⟨0x22, false, false, false⟩).ser .a
    (e true).rx.data = 0x11 ∧ (e true).rxWait = [] ∧ (e false).rx.data = 0x22 ∧ (e false).rxWait = [] := by decide

/-! Witnesses: states and operands that meet the hypotheses of each statement that has any, at the ends of their ranges -/

theorem test_witness_byteLoads : byteLoad State.reset (.ldAAtMn 0xFFFF) = some (.a, 0xFFFF) ∧
    byteLoad State.reset (.ldRAtIxD .h 0x80) = some (.h, 0xFF80) := by decide

theorem test_witness_wordLoads : wordLoad State.reset (.ldDdAtMn .sp 0xFFFF) = some (.ss .sp, 0xFFFF) ∧
    wordLoad State.reset (.ldIxAtMn 0x0000) = some (.ix, 0x0000) := by decide

/-- The CPU under an I/O prefix. -/
def prefixed (io : IoSpace) : State := { State.reset with cpu := { State.reset.cpu with iospace := io } }

theorem test_witness_stores : (byteStore State.reset (.ldAtMnA 0xFFFF) = some (0xFFFF, 0x00) ∧
    wordStore State.reset (.ldAtMnHl 0xFFFF) = some (0xFFFF, 0x0000)) ∧ State.reset.cpu.iospace = .memory ∧
    (prefixed .internal).cpu.iospace = .internal ∧ (prefixed .external).cpu.iospace = .external ∧
    (prefixed .internal).writesLeft = none ∧ (prefixed .external).writesLeft = none := by decide

theorem test_witness_stackRelative : stackLoad (.ldHlAtSpN 0xFF) = some (.ss .hl, 0xFF) ∧
    stackStore State.reset (.ldAtSpNIx 0x00) = some (0x00, 0x0000) ∧ State.reset.writesLeft = none := by decide

theorem test_witness_ldp : ldpLoad State.reset (.ldpIxAtMn 0xFFFF) = some (.ix, 0xFFFF) ∧
    ldpStore State.reset (.ldpAtMnIy 0xFFFF) = some (0xFFFF, 0x0000) ∧ Memory.wf State.reset.mem = true ∧
    State.reset.physDriven false (0x0#4 ++ 0xFFFF#16) = true ∧ State.reset.physDriven false (0x0#4 ++ 0x0000#16) = true ∧
    State.reset.writesLeft = none ∧ ((State.reset.physTargets false (0x0#4 ++ 0xFFFF#16)).map Prod.fst ++
      (State.reset.physTargets false (0x0#4 ++ 0x0000#16)).map Prod.fst).Nodup := by decide

theorem test_witness_specialMoves : (Instr.ldAEir = .ldAEir ∧ (0x00 : Byte) = State.reset.cpu.eir) ∧
    (Instr.ldAIir = .ldAIir ∧ (0x00 : Byte) = State.reset.cpu.iir) := by decide

/-- The CPU under ALTD. -/
def alternate : State := { State.reset with cpu := { State.reset.cpu with altd := true } }

theorem test_witness_exchanges : State.reset.cpu.altd = false ∧ alternate.cpu.altd = true := by decide

theorem test_witness_pops_and_returns : State.reset.priorityRefused = false ∧ (userMachine [] id).priorityRefused = false := by
  decide

theorem test_witness_alu : aluForm State.reset (.addAN 0xFF) = some (.add, .value 0xFF) ∧
    aluForm State.reset (.cpAtIxD 0x80) = some (.cp, .at 0xFF80) := by decide

theorem test_witness_modifyMemory : (byteOp (.setBAtIyD 7 0x7F) = some (.set 7) ∧
    modifyAddr State.reset (.setBAtIyD 7 0x7F) = some 0x007F) ∧
    byteOp .incAtHl = some .inc ∧ modifyAddr State.reset .incAtHl = some 0x0000 := by decide

theorem test_witness_modifyRegister : byteOp (.resBR 0 .a) = some (.res 0) ∧ byteOpReg (.resBR 0 .a) = some .a := by decide

theorem test_witness_blockMoves : blockForm .lddr = some (true, -1, -1, true) ∧ blockForm .lsidr = some (false, 0, 1, true) ∧
    (prefixed .external).cpu.iospace ≠ .memory ∧ State.reset.cpu.iospace = .memory ∧ (prefixed .external).writesLeft = none ∧
    State.reset.writesLeft = none := by decide

/-- The reset state with other parameters. -/
def withCfg (f : Params → Params) : State := { State.reset with cfg := f State.reset.cfg }

theorem test_witness_multiplyAccumulate : (withCfg fun c => { c with umsForm := .literal }).cfg.umsForm = .literal ∧
    (withCfg fun c => { c with umsForm := .magnitude }).cfg.umsForm = .magnitude := by decide

theorem test_witness_softwareTraps : bit State.reset.dev.mmu.bdcr 7 = false ∧
    bit (withDev State.reset fun d => { d with mmu := { d.mmu with bdcr := 0x80 } }).dev.mmu.bdcr 7 = true := by decide

theorem test_witness_priorityAndMode : State.reset.priorityRefused = false ∧ alternate.cpu.altd = true ∧
    (State.reset.cpu.altd = false ∧ State.reset.userMode = false) ∧
    ((userMachine [] id).cpu.altd = false ∧ (userMachine [] id).userMode = true) := by decide

/-- User mode under USER_IPSET3 = refuse. -/
def refusing : State := { userMachine [] id with cfg := { State.reset.cfg with userIpset3 := .refuse } }

theorem test_witness_priorityRefusals : refusing.cfg.userIpset3 = .refuse ∧ refusing.userMode = true := by decide

theorem test_witness_priorityRefusals_stop : exec .ipset3 refusing = .refused (.userPriority "IPSET 3") := rfl

theorem test_witness_decodeEncode : OpcodeMap.ok .default = true ∧ WellFormed .r3000A .default .syscall = true ∧
    (Instr.altd = .altd → ([0xE2] : List Byte).head? ≠ some 0xE3 ∧ ([0xE2] : List Byte).head? ≠ some 0xEB) := by decide

theorem test_witness_decodeWords : ((0xC0 : Byte).extractLsb' 0 3 ≠ 6 ∨ (0xC0 : Byte) = 0x36) ∧
    ((0x36 : Byte).extractLsb' 0 3 ≠ 6 ∨ (0x36 : Byte) = 0x36) := by decide

theorem test_witness_decodeSound : OpcodeMap.ok .default = true ∧
    decode .r3000A .default [0xED, 0x75, 0xFF] = .ok (.syscall, [0xFF]) := ⟨by decide, rfl⟩

/-- Where no event, interrupt or bootstrap stands before the instruction. -/
def plain (bs : List Byte) : State := machine .r3000A bs [] id

theorem test_witness_stepRunsInstr : (∀ e rest, (plain [0x3E, 0xFF]).inbox ≠ (0, e) :: rest) ∧
    (plain [0x3E, 0xFF]).dev.boot.active = false ∧ (plain [0x3E, 0xFF]).interruptDue = none ∧
    (plain [0x3E, 0xFF]).bootIntercepts = false ∧
    reads .r3000A ((plain [0x3E, 0xFF]).fetched.1.take 2, .ldRN .a 0xFF) = true :=
  ⟨fun _ _ h => (by cases h), by decide⟩

theorem test_witness_stepRunsInstr_rejects : (∀ e rest, (plain [0xED, 0x00]).inbox ≠ (0, e) :: rest) ∧
    (plain [0xED, 0x00]).dev.boot.active = false ∧ (plain [0xED, 0x00]).interruptDue = none ∧
    (plain [0xED, 0x00]).bootIntercepts = false ∧ rejects .r3000A (plain [0xED, 0x00]).fetched.1 "ED" 0x00 = true :=
  ⟨fun _ _ h => (by cases h), by decide⟩

theorem test_witness_fetchedBytes : ∀ k ∈ [0, 1, 2, 3], State.reset.physDriven
    (inXpcWindow State.reset.dev.mmu (0xFFFD + BitVec.ofNat 16 k)) (State.reset.fetchPhys (0xFFFD + BitVec.ofNat 16 k)) = true := by
  decide

theorem test_witness_writeReadsBack : Memory.wf (plain []).mem = true ∧ (plain []).writesLeft = none ∧
    (plain []).memWritable 0xFFFF = true ∧ (plain []).dataCell 0x0000 ∉ (plain []).dataCells 0xFFFF ∧
    Memory.wf State.reset.mem = true ∧ State.reset.writesLeft = none ∧ ∀ c ∈ State.reset.dataTargets 0x0000, c.2 = false := by
  decide

/-- MMIDR[4] set: chip select 1 answers beside the one a bank names. -/
def forcing : State := withDev (plain []) fun d => { d with mmu := { d.mmu with mmidr := 0x10, mbcr := #v[0x00, 0x01, 0x02, 0x07] } }

/-- The cases of `BankSelection`: two devices, one, and the other chip selects (`21_memory_interface.md` R90). -/
theorem test_witness_bankSelection : (forcing.physTargets false 0x00000).length = 2 ∧ forcing.physDriven false 0x00000 = false ∧
    (forcing.physTargets false 0x40000).length = 1 ∧ forcing.physDriven false 0x40000 = true ∧
    (forcing.physTargets false 0xFFFFF).map Prod.fst = [6 * 0x100000 - 1, 4 * 0x100000 - 1] ∧
    ((plain []).physTargets false 0xFFFFF).map Prod.fst = [0xFFFFF] := by decide

theorem test_witness_dataLoads : State.reset.cpu.iospace = .memory ∧ (prefixed .internal).cpu.iospace = .internal ∧
    (prefixed .external).cpu.iospace = .external ∧
    State.reset.physDriven (inXpcWindow State.reset.dev.mmu 0xFFFF) (State.reset.dataPhys 0xFFFF) = true ∧
    State.reset.physDriven (inXpcWindow State.reset.dev.mmu 0x0000) (State.reset.dataPhys 0x0000) = true := by
  decide

/-- Write protection on, the last 64 KB block protected, and the last page of block 0. -/
def protecting : State := withDev (plain []) fun d => { d with mmu := { d.mmu with
  wpcr := 0x01, wphr := 0x80, wpsr := #v[0x00, 0x00], wpshr := #v[0x80, 0x00], wpslr := #v[0x00, 0x00] } }

theorem test_witness_writeProtection : (protecting.cfg.rev = .r3000A ∧ protecting.dev.mmu.wpcr.getLsbD 0 = true) ∧
    protecting.physProtected 0xFFFFF = true ∧ protecting.physProtected 0xF0000 = true ∧
    protecting.physProtected 0x0FFFF = true ∧ protecting.physProtected 0x0F000 = true ∧
    protecting.physProtected 0x0EFFF = false ∧ protecting.physProtected 0x10000 = false ∧
    (plain []).physProtected 0xFFFFF = false ∧ protecting.writesLeft = none := by decide

theorem test_witness_internalIo : (0x0000 : Word).toNat % 256 = (0xFF00 : Word).toNat % 256 ∧
    State.reset.dev.mmu.mmidr.getLsbD 7 = false ∧ IoReg.ofAddr .r3000A 0xFFFF = none ∧
    (withDev (plain []) fun d => { d with mmu := { d.mmu with mmidr := 0x80 } }).dev.mmu.mmidr.getLsbD 7 = true := by decide

theorem test_witness_userModeConfined : (userMachine [] id).userMode = true ∧
    (userMachine [] id).dev.user.uer = Vector.replicate 22 0 ∧ (userMachine [] id).dev.inside = 0 ∧
    ∃ t, exec .nop (userMachine [] id) = .next t :=
  ⟨by decide, by decide, by decide, _, rfl⟩

theorem test_witness_requestsCleared : (plain []).cfg.rev = .r3000A ∧ ((plain []).dev.ser .f).rxWait = [] := by decide

theorem test_witness_selectionOrder : timerPending.interruptDue = some .timerA ∧ timerPending.cpu.defer = false ∧
    IntSource.timerA.pending timerPending.dev = true := by decide

theorem test_witness_interruptEntry : (∀ e rest, timerPending.inbox ≠ (0, e) :: rest) ∧ timerPending.dev.boot.active = false ∧
    timerPending.cpu.altd = false ∧ timerPending.cpu.iospace = .memory ∧ timerPending.interruptDue = some .timerA ∧
    IntSource.timerA.vector timerPending.cfg timerPending.cpu.iir timerPending.cpu.eir = some 0x20A0 ∧
    timerPending.pushLost = false ∧ timerPending.writesLeft = none :=
  ⟨fun _ _ h => (by cases h), by decide⟩

/-- The same on the original chip, after an I/O instruction under short chip select. -/
def losingPush : State := { withDev timerPending fun d => { d with sys := { d.sys with gpscr := 0x10 } } with
  cfg := { timerPending.cfg with rev := .r3000 }, cpu := { timerPending.cpu with lastIo := true } }

theorem test_witness_interruptEntry_lost : (∀ e rest, losingPush.inbox ≠ (0, e) :: rest) ∧
    losingPush.dev.boot.active = false ∧ losingPush.cpu.altd = false ∧ losingPush.cpu.iospace = .memory ∧
    losingPush.interruptDue = some .timerA ∧
    IntSource.timerA.vector losingPush.cfg losingPush.cpu.iir losingPush.cpu.eir = some 0x20A0 ∧ losingPush.pushLost = true :=
  ⟨fun _ _ h => (by cases h), by decide⟩

theorem test_witness_vectorTable : IntSource.pwm.vector (withCfg fun c => { c with pwmVector := none }).cfg 0x00 0x00 = none ∧
    IntSource.pwm.vector (withCfg fun c => { c with pwmVector := some (true, 0xF0) }).cfg 0x00 0x00 = some 0x01F0 := by decide

theorem test_witness_conditionTable : flagC State.reset.cpu.main.f = false := by decide

theorem test_witness_latchesConsumed : isPrefix .ipset0 = false ∧ ∃ t, exec .ipset0 alternate = .next t := ⟨by decide, _, rfl⟩

theorem test_witness_controlRegisterWriters : (∃ t, exec .ipset0 State.reset = .next t ∧ t.cpu.ip ≠ State.reset.cpu.ip) ∧
    (∃ t, exec .setusr State.reset = .next t ∧ t.cpu.su ≠ State.reset.cpu.su) ∧
    (∃ t, exec (.ljpXMn 0xFF 0) State.reset = .next t ∧ t.cpu.xpc ≠ State.reset.cpu.xpc) :=
  ⟨⟨_, rfl, by decide⟩, ⟨_, rfl, by decide⟩, ⟨_, rfl, by decide⟩⟩

theorem test_witness_controlRegisterWriters_vectors : ∃ t, exec .ldIirA (plain []) = .next t ∧ t.cpu.iir = 0x00 := ⟨_, rfl, rfl⟩

theorem test_witness_stepKeepsInvariant : MachineInv (plain [0x00]) ∧ (plain [0x00]).writesLeft = none ∧ ∃ t, step (plain [0x00]) = .next t :=
  ⟨⟨by decide, ⟨⟨by decide, by decide, fun _ => by decide, fun _ => by decide, by decide, by decide, by decide⟩, by decide, by decide, by decide,
    by decide, by decide⟩⟩, rfl, _, rfl⟩

theorem test_witness_watchdog : State.reset.dev.wdt.disabled = false ∧ State.reset.dev.wdt.testing = false ∧
    State.reset.dev.wdt.count.toNat + 0xFFFF < State.reset.dev.wdt.period.toNat := by decide

theorem test_witness_watchdog_expires : (withDev State.reset fun d => { d with wdt := { d.wdt with count := 0xFFFF } }).dev.wdt.count.toNat + 1
    = (withDev State.reset fun d => { d with wdt := { d.wdt with count := 0xFFFF } }).dev.wdt.period.toNat := by decide

theorem test_witness_timerDivides : ((1 ≤ 6 → 6 ≤ 6 → State.reset.dev.timerA.tacr.getLsbD (6 + 1) = false) ∧
    (1 ≤ 1 → 1 ≤ 6 → State.reset.dev.timerA.tacr.getLsbD (1 + 1) = false)) ∧
    0 ≤ State.reset.dev.timerA.count[9].toNat := by decide

theorem test_witness_slavePortTransfers : (0 : Nat) < 8 ∧ (7 : Nat) < 8 ∧
    { State.reset.dev with slave := { State.reset.dev.slave with mode := 2 } }.slave.mode = 2 := by decide

theorem test_witness_serialReceive : (State.reset.dev.ser .a).rxFull = false ∧ (State.reset.dev.ser .a).rxWait = [] ∧
    (State.reset.dev.ser .a).overrun = false ∧ 1 ≤ State.reset.cfg.fifoDepth := by decide

/-- The devices with every bit of Port G an output. -/
def allOutputs : Dev := State.reset.dev.setTimed .g { State.reset.dev.ports.timed .g with ddr := 0xFF, fr := 0, dcr := 0, cr := 0 }

theorem test_witness_portOutputs : (allOutputs.ports.timed .g).ddr = 0xFF ∧ (allOutputs.ports.timed .g).fr = 0 ∧
    (allOutputs.ports.timed .g).dcr = 0 ∧ (allOutputs.ports.timed .g).cr = 0 := by decide

/-- The same for Port E, with the slave port enabled, which takes PE7. -/
def slaveOutputs : Dev :=
  let d := State.reset.dev.setTimed .e { State.reset.dev.ports.timed .e with ddr := 0xFF, fr := 0, dcr := 0, cr := 0 }
  { d with slave := { d.slave with mode := 2 } }

theorem test_witness_portOutputs_slave : slaveOutputs.slave.mode = 2 ∧ (slaveOutputs.ports.timed .e).ddr = 0xFF ∧
    (slaveOutputs.ports.timed .e).fr = 0 ∧ (slaveOutputs.ports.timed .e).dcr = 0 ∧ (slaveOutputs.ports.timed .e).cr = 0 ∧
    (readPins .r3000A (slaveOutputs.setTimed .e ((slaveOutputs.ports.timed .e).writeData 0xFF)) .e).1 =
      (if bit slaveOutputs.pins.e 7 then 0xFF else 0x7F) := by decide

theorem test_witness_resetValues : ∃ u, (plain [0xC5]).resetInside 1 = .next u := ⟨_, rfl⟩

end Sys2Proof.Tests
end

section
/-! The conditions of the jumps, relative jumps and returns (`47_control.md` R500): the table by code, and what each of the
three instructions leaves, by its condition. -/
namespace Sys2Proof.Machine

/-- R500's table by code: codes come in pairs, one pair for each of Z, C, L/V and S; the even code of a pair asks for 0 in its
flag and the odd one for 1. -/
def codeHolds (code : Nat) (f : Byte) : Bool :=
  [flagZ f, flagC f, flagLv f, flagS f].getD (code / 2) false == decide (code % 2 = 1)

theorem Cond.code_ofCode (c : BitVec 3) : (Cond.ofCode c).code = c := by revert c; decide

theorem CC.code_ofCode (c : BitVec 2) : (CC.ofCode c).code = c := by revert c; decide

theorem condHolds_eq_codeHolds (k : Cond) (f : Byte) : condHolds k f = codeHolds k.code.toNat f := by
  cases k <;> simp [condHolds, codeHolds, Cond.code]

theorem ccHolds_eq_codeHolds (k : CC) (f : Byte) : ccHolds k f = codeHolds k.code.toNat f := by
  cases k <;> simp [ccHolds, codeHolds, CC.code]

theorem condHolds_ofCode (c : BitVec 3) (f : Byte) : condHolds (Cond.ofCode c) f = codeHolds c.toNat f := by
  rw [condHolds_eq_codeHolds, Cond.code_ofCode]

theorem ccHolds_ofCode (c : BitVec 2) (f : Byte) : ccHolds (CC.ofCode c) f = codeHolds c.toNat f := by
  rw [ccHolds_eq_codeHolds, CC.code_ofCode]

theorem exec_jpFMn (f : Cond) (mn : Word) (s : State) :
    exec (.jpFMn f mn) s = (if condHolds f s.cpu.main.f then s.setPc mn else s).done := rfl

theorem exec_jrCcE (cc : CC) (e : Byte) (s : State) :
    exec (.jrCcE cc e) s = (if ccHolds cc s.cpu.main.f then s.jumpBy e else s).done := rfl

theorem exec_retF (f : Cond) (s : State) :
    exec (.retF f) s = (if condHolds f s.cpu.main.f then s.popPc else s).done := rfl

/-- `JP f,mn` writes the program counter alone, and only where its condition holds (`47_control.md` R506). -/
theorem jpFMn_completes (f : Cond) (mn : Word) (s : State) :
    CompletesCpu (.jpFMn f mn) s { s.cpu with pc := if condHolds f s.cpu.main.f then mn else s.cpu.pc } := by
  unfold CompletesCpu
  rw [exec_jpFMn]
  split <;> rfl

/-- `JR cc,e` adds the signed displacement to the program counter, and only where its condition holds
(`47_control.md` R508). -/
theorem jrCcE_completes (cc : CC) (e : Byte) (s : State) :
    CompletesCpu (.jrCcE cc e) s
      { s.cpu with pc := if ccHolds cc s.cpu.main.f then s.cpu.pc + e.signExtend 16 else s.cpu.pc } := by
  unfold CompletesCpu
  rw [exec_jrCcE]
  split <;> rfl

/-- `RET f` reads nothing and keeps SP where its condition fails (`47_control.md` R514). -/
theorem retF_completes_of_not_condHolds (f : Cond) (s : State) (hf : condHolds f s.cpu.main.f = false) :
    CompletesCpu (.retF f) s s.cpu := by
  unfold CompletesCpu
  rw [exec_retF, hf]
  rfl

/-- Settles O49: the table by the conditions' constructors, then each instruction's own lemma with its condition read off the
code. -/
theorem conditionTable : Obligations.ConditionTable := by
  intro s
  refine ⟨condHolds_ofCode, ccHolds_ofCode, fun c mn => ?jp, fun c e => ?jr, fun c hc => ?ret⟩
  case jp =>
    have h := jpFMn_completes (Cond.ofCode c) mn s
    rwa [condHolds_ofCode] at h
  case jr =>
    have h := jrCcE_completes (CC.ofCode c) e s
    rwa [ccHolds_ofCode] at h
  case ret => exact retF_completes_of_not_condHolds _ s ((condHolds_ofCode c _).trans hc)

end Sys2Proof.Machine
end

section
/-! The slave port's registers (`64_serial_slave.md` R870 to R875): what each access of either side does to the status register,
which byte comes back, and that the internal I/O addresses 0x20 to 0x23 reach exactly these accesses. -/
namespace Sys2Proof.Machine

/-- A row of R874's table: from `p` to `q` the status bits of `set` become 1, those of `clear` become 0, the rest stay. -/
def StatusBecomes (p q : SlavePort) (set clear : List Nat) : Prop := ∀ k, k < 8 →
  q.spsr.getLsbD k = (decide (k ∈ set) || (p.spsr.getLsbD k && !decide (k ∈ clear)))

theorem StatusBecomes.of_or {p q : SlavePort} {mask : Byte} {set : List Nat} (hq : q.spsr = p.spsr ||| mask)
    (hm : ∀ k, k < 8 → mask.getLsbD k = decide (k ∈ set)) : StatusBecomes p q set [] := by
  intro k hk
  rw [hq, BitVec.getLsbD_or, hm k hk, Bool.or_comm]
  simp

theorem StatusBecomes.of_clearBit {p q : SlavePort} {i : Nat} (hi : i < 8) (hq : q.spsr = setBit p.spsr i false) :
    StatusBecomes p q [] [i] := by
  intro k _
  have hbit : q.spsr.getLsbD k = if k = i then false else p.spsr.getLsbD k := by
    rw [hq]
    exact bit_setBit p.spsr i k false hi
  rw [hbit]
  by_cases hki : k = i <;> simp [hki]

/-! The status after an access of either side (`64_serial_slave.md` R872 to R874) -/

theorem SlavePort.masterWrite_status (p : SlavePort) (v : Byte) : StatusBecomes p (p.masterWrite 0 v) [7, 4] [] ∧
    StatusBecomes p (p.masterWrite 1 v) [5] [] ∧ StatusBecomes p (p.masterWrite 2 v) [6] [] :=
  ⟨.of_or rfl (by decide), .of_or rfl (by decide), .of_or rfl (by decide)⟩

theorem SlavePort.writeOut_status (p : SlavePort) (v : Byte) : StatusBecomes p (p.writeOut 0 v) [3, 0] [] ∧
    StatusBecomes p (p.writeOut 1 v) [1] [] ∧ StatusBecomes p (p.writeOut 2 v) [2] [] :=
  ⟨.of_or rfl (by decide), .of_or rfl (by decide), .of_or rfl (by decide)⟩

theorem SlavePort.readIn_status (p : SlavePort) (n : Fin 3) : StatusBecomes p (p.readIn n).2 [] [4 + n.val] :=
  .of_clearBit (by omega) rfl

/-- The master's address of a data register is the register's number (`64_serial_slave.md` R872). -/
theorem SlavePort.masterRead_data (p : SlavePort) (n : Fin 3) :
    p.masterRead (BitVec.ofNat 2 n.val) = (p.outR[n], { p with spsr := setBit p.spsr n.val false }) :=
  match n with
  | 0 => rfl
  | 1 => rfl
  | 2 => rfl

theorem SlavePort.masterRead_status (p : SlavePort) (n : Fin 3) :
    StatusBecomes p (p.masterRead (BitVec.ofNat 2 n.val)).2 [] [n.val] :=
  .of_clearBit (by omega) (by rw [p.masterRead_data n])

theorem SlavePort.writeStatus_status (p : SlavePort) : StatusBecomes p p.writeStatus [] [7] :=
  .of_clearBit (by omega) rfl

theorem SlavePort.masterWriteStatus_status (p : SlavePort) (v : Byte) : StatusBecomes p (p.masterWrite 3 v) [] [3] :=
  .of_clearBit (by omega) rfl

/-! What one side writes the other side reads (`64_serial_slave.md` R870, R873) -/

theorem SlavePort.masterWrite_inR (p : SlavePort) (v : Byte) (n : Fin 3) :
    (p.masterWrite (BitVec.ofNat 2 n.val) v).inR = p.inR.set n v :=
  match n with
  | 0 => rfl
  | 1 => rfl
  | 2 => rfl

theorem SlavePort.readIn_masterWrite (p : SlavePort) (v : Byte) (n : Fin 3) :
    ((p.masterWrite (BitVec.ofNat 2 n.val) v).readIn n).1 = v := by
  simp only [SlavePort.readIn, p.masterWrite_inR]
  exact Vector.getElem_set_self n.isLt

theorem SlavePort.masterRead_writeOut (p : SlavePort) (v : Byte) (n : Fin 3) :
    ((p.writeOut n v).masterRead (BitVec.ofNat 2 n.val)).1 = v := by
  simp only [SlavePort.masterRead_data, SlavePort.writeOut]
  exact Vector.getElem_set_self n.isLt

/-! The external interrupt catchers do not see the slave port: of Port E it takes PE7 alone (`62_ports_io_banks.md` R726),
and they watch PE0, PE1, PE4 and PE5 (`60_exceptions.md` R640). -/

theorem edgeSelected_self (sel : BitVec 2) (l : Option Bool) : edgeSelected sel l l = false :=
  match l with
  | none => rfl
  | some false => rfl
  | some true => rfl

theorem ExtInt.watch_self (x : ExtInt) (a b : Option Bool) : x.watch a a b b = x := by
  simp [ExtInt.watch, edgeSelected_self]

theorem slaveTakes_of_ne_pe7 (d : Dev) {k : Fin 8} (hk : k ≠ 7) : slaveTakes d .e k = false := by
  unfold slaveTakes
  split
  · contradiction
  · rfl

theorem timedLevel_withSlave (rev : Rev) (d : Dev) (p : SlavePort) {k : Fin 8} (hk : k ≠ 7) :
    timedLevel rev { d with slave := p } .e k = timedLevel rev d .e k := by
  unfold timedLevel
  rw [slaveTakes_of_ne_pe7 _ hk, slaveTakes_of_ne_pe7 _ hk]
  rfl

theorem catchEdges_withSlave (rev : Rev) (d : Dev) (p : SlavePort) :
    catchEdges rev d { d with slave := p } = { d with slave := p } := by
  simp [catchEdges, timedLevel_withSlave, ExtInt.watch_self]

/-! The slave's accesses by internal I/O address (`20_memory.md` R52, R73) -/

/-- An address below 0x100 names the same location however many bits are decoded (`20_memory.md` R52). -/
theorem decodeIo_of_lt (rev : Rev) (m : Mmu) {a : Word} (ha : a.toNat < 0x100) : decodeIo rev m a = a.toNat := by
  have hlo : (loByte a).toNat = a.toNat := by
    simp only [loByte, BitVec.extractLsb'_toNat, Nat.shiftRight_zero]
    exact Nat.mod_eq_of_lt ha
  unfold decodeIo
  split
  · exact hlo
  · split
    · rfl
    · exact hlo

theorem ioReadInternal_of_ofAddr {cfg : Params} {d : Dev} {a : Word} {r : IoReg} (ha : a.toNat < 0x100)
    (hr : IoReg.ofAddr cfg.rev a.toNat = some r) : ioReadInternal cfg false d a = readReg cfg d r := by
  simp [ioReadInternal, decodeIo_of_lt _ _ ha, hr]

theorem portABug_of_lt (rev : Rev) {a : Nat} (v : Byte) (d : Dev) (ha : a < 0x31) : portABug rev a v d = d := by
  have hno : ¬ (0x31 ≤ a ∧ a ≤ 0x3F) := by omega
  cases rev <;> simp [portABug, hno]

/-- A write below the Port A locations that changes the slave port alone is that change: neither the decode bug of R925 nor an
interrupt catcher adds to it. -/
theorem ioWriteInternal_slave {cfg : Params} {d : Dev} {a : Word} {v : Byte} {r : IoReg} {p : SlavePort}
    (ha : a.toNat < 0x31) (hr : IoReg.ofAddr cfg.rev a.toNat = some r)
    (hw : writeReg cfg d r v = .ok { d with slave := p }) :
    ioWriteInternal cfg false d a v = .ok { d with slave := p } := by
  have hloc : writeLocation cfg d a.toNat v = .ok { d with slave := p } := by
    simp [writeLocation, hr, hw, Except.map, portABug_of_lt _ _ _ ha]
  simp [ioWriteInternal, decodeIo_of_lt _ _ (show a.toNat < 0x100 by omega), hloc, Except.map, catchEdges_withSlave]

theorem ofAddr_spsr (rev : Rev) : IoReg.ofAddr rev 0x23 = some .spsr :=
  match rev with
  | .r3000 => rfl
  | .r3000A => rfl

theorem ofAddr_spd (rev : Rev) (n : Fin 3) : IoReg.ofAddr rev (0x20 + n.val) = some (.spd n) :=
  match rev, n with
  | .r3000, 0 => rfl
  | .r3000, 1 => rfl
  | .r3000, 2 => rfl
  | .r3000A, 0 => rfl
  | .r3000A, 1 => rfl
  | .r3000A, 2 => rfl

theorem spdAddr_toNat (n : Fin 3) : (0x20 + BitVec.ofNat 16 n.val : Word).toNat = 0x20 + n.val := by
  revert n
  decide

theorem ioReadInternal_spsr (cfg : Params) (d : Dev) : ioReadInternal cfg false d 0x23 = (d.slave.spsr, d) :=
  ioReadInternal_of_ofAddr (a := 0x23) (by decide) (ofAddr_spsr cfg.rev)

theorem ioWriteInternal_spsr (cfg : Params) (d : Dev) (v : Byte) :
    ioWriteInternal cfg false d 0x23 v = .ok { d with slave := d.slave.writeStatus } :=
  ioWriteInternal_slave (by decide) (ofAddr_spsr cfg.rev) rfl

theorem ioReadInternal_spd (cfg : Params) (d : Dev) (n : Fin 3) :
    ioReadInternal cfg false d (0x20 + BitVec.ofNat 16 n.val) =
      ((d.slave.readIn n).1, { d with slave := (d.slave.readIn n).2 }) :=
  ioReadInternal_of_ofAddr (by rw [spdAddr_toNat]; omega) (spdAddr_toNat n ▸ ofAddr_spd cfg.rev n)

theorem ioWriteInternal_spd (cfg : Params) (d : Dev) (v : Byte) (n : Fin 3) :
    ioWriteInternal cfg false d (0x20 + BitVec.ofNat 16 n.val) v = .ok { d with slave := d.slave.writeOut n v } :=
  ioWriteInternal_slave (by rw [spdAddr_toNat]; omega) (spdAddr_toNat n ▸ ofAddr_spd cfg.rev n) rfl

/-- /SLAVEATTN is PB7 while the slave port is enabled (`64_serial_slave.md` R871, R874). -/
theorem levelB_slaveAttn (d : Dev) (hd : d.slave.mode = 2) : levelB d 7 = some (!d.slave.spsr.getLsbD 3) := by
  simp [levelB, hd, bit]

/-- Settles O59: R874's table access by access, the data registers in both directions, then the slave's accesses at their
internal I/O addresses. -/
theorem slavePortTransfers : Obligations.SlavePortTransfers := by
  refine ⟨fun p v => ⟨p.masterWrite_status v, ?readIn, p.writeOut_status v, ?masterRead, ?slaveStatus, ?masterStatus, rfl,
    ?masterToSlave, ?slaveToMaster⟩, fun cfg d v => ?spsr, fun cfg d v n => ?spd, fun _ _ _ _ _ => rfl⟩
  case readIn => exact ⟨p.readIn_status 0, p.readIn_status 1, p.readIn_status 2⟩
  case masterRead => exact ⟨p.masterRead_status 0, p.masterRead_status 1, p.masterRead_status 2⟩
  case slaveStatus => exact ⟨p.writeStatus_status, rfl⟩
  case masterStatus => exact ⟨p.masterWriteStatus_status v, rfl⟩
  case masterToSlave => exact ⟨p.readIn_masterWrite v 0, p.readIn_masterWrite v 1, p.readIn_masterWrite v 2⟩
  case slaveToMaster => exact ⟨p.masterRead_writeOut v 0, p.masterRead_writeOut v 1, p.masterRead_writeOut v 2⟩
  case spsr => exact ⟨ioReadInternal_spsr cfg d, ioWriteInternal_spsr cfg d v, levelB_slaveAttn d⟩
  case spd => exact ⟨ioReadInternal_spd cfg d n, ioWriteInternal_spd cfg d v n⟩

end Sys2Proof.Machine
end

section
/-! The decoder reads back what the encoder writes (`30_encoding.md` R120 to R133): one lemma per opcode page, which takes the
form the page gives an opcode byte, and then the encodings, grouped by page and operand bytes. -/
namespace Sys2Proof
open Sys2Proof.Machine

/-- A bit select is one of eight. -/
theorem bitSelect_cases {P : BitVec 3 → Prop} (h0 : P 0) (h1 : P 1) (h2 : P 2) (h3 : P 3) (h4 : P 4) (h5 : P 5) (h6 : P 6)
    (h7 : P 7) (b : BitVec 3) : P b := by
  have hall : ∀ b : BitVec 3, b = 0 ∨ b = 1 ∨ b = 2 ∨ b = 3 ∨ b = 4 ∨ b = 5 ∨ b = 6 ∨ b = 7 := by decide
  rcases hall b with rfl | rfl | rfl | rfl | rfl | rfl | rfl | rfl <;> assumption

section
variable {rev : Rev} {ops : OpcodeMap} {op d : Byte} {rest : List Byte} {f : Form} {p : Instr × List Byte}

theorem decodePage_of_form {page : String} {rows : List OpRow} (hf : rows.findSome? (OpRow.select rev op) = some f)
    (hr : f.read rest = .ok p) : decodePage rev page rows op rest = .ok p := by
  simp [decodePage, hf, hr]

/-- The one-byte page; the five bytes that open another page are not its own. -/
theorem decode_main (hop : op ≠ 0x76 ∧ op ≠ 0xCB ∧ op ≠ 0xED ∧ op ≠ 0xDD ∧ op ≠ 0xFD)
    (hf : mainRows.findSome? (OpRow.select rev op) = some f) (hr : f.read rest = .ok p) :
    decode rev ops (op :: rest) = .ok p := by
  obtain ⟨h76, hCB, hED, hDD, hFD⟩ := hop
  simp only [decode, if_neg h76, if_neg hCB, if_neg hED, if_neg hDD, if_neg hFD]
  exact decodePage_of_form hf hr

theorem decode_cb (hf : cbRows.findSome? (OpRow.select rev op) = some f) (hr : f.read rest = .ok p) :
    decode rev ops (0xCB :: op :: rest) = .ok p := decodePage_of_form hf hr

theorem decode_ed (hf : edRows.findSome? (OpRow.select rev op) = some f) (hr : f.read rest = .ok p) :
    decode rev ops (0xED :: op :: rest) = .ok p := by
  show decodeEd rev ops (op :: rest) = .ok p
  simp [decodeEd, hf, hr]

theorem decodeIndexed_of_form {page pageCb : String} {rows rowsCb : List OpRow} (hop : op ≠ 0xCB)
    (hf : rows.findSome? (OpRow.select rev op) = some f) (hr : f.read rest = .ok p) :
    decodeIndexed rev page pageCb rows rowsCb (op :: rest) = .ok p := by
  simp only [decodeIndexed, if_neg hop]
  exact decodePage_of_form hf hr

theorem decode_dd (hop : op ≠ 0xCB) (hf : ddRows.findSome? (OpRow.select rev op) = some f) (hr : f.read rest = .ok p) :
    decode rev ops (0xDD :: op :: rest) = .ok p := decodeIndexed_of_form hop hf hr

theorem decode_fd (hop : op ≠ 0xCB) (hf : fdRows.findSome? (OpRow.select rev op) = some f) (hr : f.read rest = .ok p) :
    decode rev ops (0xFD :: op :: rest) = .ok p := decodeIndexed_of_form hop hf hr

/-- The page DD CB: the displacement stands before the opcode byte (`30_encoding.md` R130). -/
theorem decode_ddcb (hf : ddcbRows.findSome? (OpRow.select rev op) = some f) (hr : f.read (d :: rest) = .ok p) :
    decode rev ops (0xDD :: 0xCB :: d :: op :: rest) = .ok p := decodePage_of_form hf hr

theorem decode_fdcb (hf : fdcbRows.findSome? (OpRow.select rev op) = some f) (hr : f.read (d :: rest) = .ok p) :
    decode rev ops (0xFD :: 0xCB :: d :: op :: rest) = .ok p := decodePage_of_form hf hr

end

/-! The added instructions (`30_encoding.md` R133) -/

theorem OpcodeMap.ok_iff {ops : OpcodeMap} : ops.ok = true ↔ (ops.map Prod.fst).Nodup ∧ (ops.map Prod.snd).Nodup ∧
    ∀ x ∈ ops, edRows.findSome? (OpRow.select .r3000A x.2) = none := by
  simp [OpcodeMap.ok, and_assoc]

theorem mem_of_lookup {α β : Type} [BEq α] [LawfulBEq α] {a : α} {b : β} {l : List (α × β)} (h : l.lookup a = some b) :
    (a, b) ∈ l := by
  obtain ⟨l₁, l₂, rfl, -⟩ := List.lookup_eq_some_iff.1 h
  simp

/-- Of two pairs of a list whose second parts differ throughout, those with the same second part are one. -/
theorem eq_of_mem_of_snd_eq {α β : Type} {l : List (α × β)} (hl : (l.map Prod.snd).Nodup) {x y : α × β} (hx : x ∈ l)
    (hy : y ∈ l) (h : x.2 = y.2) : x = y := by
  induction l with
  | nil => cases hx
  | cons z rest ih =>
    obtain ⟨hz, hrest⟩ := List.nodup_cons.1 hl
    rcases List.mem_cons.1 hx with rfl | hx' <;> rcases List.mem_cons.1 hy with rfl | hy'
    · rfl
    · exact absurd (h ▸ List.mem_map_of_mem hy') hz
    · exact absurd (h ▸ List.mem_map_of_mem hx') hz
    · exact ih hrest hx' hy'

/-- A byte the map gives a name is that name's. -/
theorem OpcodeMap.at_of_mem {ops : OpcodeMap} (hok : ops.ok = true) {n : Added} {b : Byte} (hm : (n, b) ∈ ops) :
    ops.at .r3000A b = some n.instr := by
  obtain ⟨-, hsnd, -⟩ := OpcodeMap.ok_iff.1 hok
  have hfind : ops.find? (fun x => decide (x.2 = b)) = some (n, b) := by
    cases h : ops.find? (fun x => decide (x.2 = b)) with
    | none => exact absurd (List.find?_eq_none.1 h _ hm) (by simp)
    | some y =>
      have hy : y.2 = b := by simpa using List.find?_some h
      rw [eq_of_mem_of_snd_eq hsnd (List.mem_of_find?_eq_some h) hm hy]
  simp [OpcodeMap.at, hfind]

/-- An added instruction of a well-formed map is read back. -/
theorem decode_added {rev : Rev} {ops : OpcodeMap} {i : Instr} {n : Added} (hok : ops.ok = true)
    (hw : WellFormed rev ops i = true) (ha : i.added = some n) (hn : n.instr = i) (h3 : i.only3000A = true)
    (he : encode ops i = ops.bytes n) (rest : List Byte) : decode rev ops (encode ops i ++ rest) = .ok (i, rest) := by
  cases rev with
  | r3000 => simp [WellFormed, h3] at hw
  | r3000A =>
    simp only [WellFormed, Bool.and_eq_true, OpcodeMap.names, ha] at hw
    obtain ⟨b, hb⟩ := Option.isSome_iff_exists.1 hw.2
    have hm := mem_of_lookup hb
    obtain ⟨-, -, hfree⟩ := OpcodeMap.ok_iff.1 hok
    rw [he, OpcodeMap.bytes, hb]
    show decodeEd .r3000A ops (b :: rest) = _
    simp [decodeEd, hfree _ hm, OpcodeMap.at_of_mem hok hm, hn]

theorem decodeAltd_of_head {rest : List Byte} (h : rest.head? ≠ some 0xE3 ∧ rest.head? ≠ some 0xEB) :
    decodeAltd rest = (.altd, rest) := by
  cases rest with
  | nil => rfl
  | cons b bs =>
    simp only [List.head?_cons, ne_eq, Option.some.injEq] at h
    simp only [decodeAltd, if_neg h.1, if_neg h.2]

/-- `LD r,g`: the byte 0x5B is the original chip's `LD E,E` and on the 3000A no such load (`30_encoding.md` R126). -/
theorem decode_ldRG {rev : Rev} {ops : OpcodeMap} {r g : R8} (hw : WellFormed rev ops (.ldRG r g) = true) (rest : List Byte) :
    decode rev ops (encode ops (.ldRG r g) ++ rest) = .ok (.ldRG r g, rest) := by
  cases rev with
  | r3000 => cases r <;> cases g <;> exact decode_main (by decide) rfl (Form.read_done _ _)
  | r3000A =>
    by_cases he : r = .e ∧ g = .e
    · obtain ⟨rfl, rfl⟩ := he
      simp [WellFormed, Instr.isLdEE] at hw
    · cases r <;> cases g <;> first | exact absurd ⟨rfl, rfl⟩ he | exact decode_main (by decide) rfl (Form.read_done _ _)

/-- Settles O31: by the page the encoding opens and the operand bytes it has; a register, condition or bit select takes each
of its values. -/
theorem decodeEncode : Obligations.DecodeEncode := by
  intro rev ops i rest hok hw hhead
  cases i with
  | ldAAtBc | ldAAtDe | ldAtBcA | ldAtDeA | ldSpHl | exAfAfa | exDeaHl | exDeHl | exx | andHlDe | boolHl | mul
  | orHlDe | rlDe | rrDe | rrHl | adcAAtHl | addAAtHl | andAtHl | cpAtHl | orAtHl | sbcAAtHl | subAtHl | xorAtHl
  | decAtHl | incAtHl | cpl | rla | rlca | rra | rrca | ioi | ioe | jpAtHl | ret | ccf | nop | scf =>
    exact decode_main (by decide) rfl (Form.read_done _ _)
  | ldAtHlR x | ldRAtHl x | popZz x | pushZz x | addHlSs x | decSs x | incSs x | adcAR x | addAR x | andR x | cpR x
  | orR x | sbcAR x | subR x | xorR x | decR x | incR x | retF x | rstV x =>
    cases x <;> exact decode_main (by decide) rfl (Form.read_done _ _)
  | ldAtHlN _ | ldAtSpNHl _ | ldHlAtSpN _ | ldAtIxDHl _ | ldHlAtIxD _ | addSpD _ | adcAN _ | addAN _ | andN _ | cpN _
  | orN _ | sbcAN _ | subN _ | xorN _ | djnzE _ | jrE _ => exact decode_main (by decide) rfl (Form.read_imm8 _ _ _)
  | ldRN x _ | jrCcE x _ => cases x <;> exact decode_main (by decide) rfl (Form.read_imm8 _ _ _)
  | ldAtMnA _ | ldAAtMn _ | ldAtMnHl _ | ldHlAtMn _ | callMn _ | jpMn _ =>
    exact decode_main (by decide) rfl (Form.read_imm16 _ _ _)
  | ldDdMn x _ | jpFMn x _ => cases x <;> exact decode_main (by decide) rfl (Form.read_imm16 _ _ _)
  | lcallXMn _ _ | ljpXMn _ _ => exact decode_main (by decide) rfl (Form.read_imm16imm8 _ _ _ _)
  | rlAtHl | rlcAtHl | rrAtHl | rrcAtHl | slaAtHl | sraAtHl | srlAtHl => exact decode_cb rfl (Form.read_done _ _)
  | bitBAtHl b | resBAtHl b | setBAtHl b => cases b using bitSelect_cases <;> exact decode_cb rfl (Form.read_done _ _)
  | rlR x | rlcR x | rrR x | rrcR x | slaR x | sraR x | srlR x => cases x <;> exact decode_cb rfl (Form.read_done _ _)
  | bitBR b x | resBR b x | setBR b x => cases b using bitSelect_cases <;> cases x <;> exact decode_cb rfl (Form.read_done _ _)
  | ldpAtHlHl | ldpHlAtHl | ldAEir | ldAIir | ldAXpc | ldEirA | ldIirA | ldXpcA | exAtSpHl | popIp | pushIp | neg
  | ldd | lddr | ldi | ldir | lret | reti | ipset0 | ipset1 | ipset2 | ipset3 | ipres =>
    exact decode_ed rfl (Form.read_done _ _)
  | ldDdaBc x | ldDdaDe x | adcHlSs x | sbcHlSs x => cases x <;> exact decode_ed rfl (Form.read_done _ _)
  | ldpAtMnHl _ | ldpHlAtMn _ => exact decode_ed rfl (Form.read_imm16 _ _ _)
  | ldAtMnSs _ x | ldDdAtMn x _ => cases x <;> exact decode_ed rfl (Form.read_imm16 _ _ _)
  | ldpAtIxHl | ldpHlAtIx | ldHlIx | ldIxHl | ldSpIx | exAtSpIx | popIx | pushIx | andIxDe | boolIx | decIx | incIx
  | orIxDe | rrIx | jpAtIx => exact decode_dd (by decide) rfl (Form.read_done _ _)
  | addIxXx x => cases x <;> exact decode_dd (by decide) rfl (Form.read_done _ _)
  | ldAtHlDHl _ | ldHlAtHlD _ | ldAtSpNIx _ | ldIxAtSpN _ | adcAAtIxD _ | addAAtIxD _ | andAtIxD _ | cpAtIxD _
  | orAtIxD _ | sbcAAtIxD _ | subAtIxD _ | xorAtIxD _ | decAtIxD _ | incAtIxD _ =>
    exact decode_dd (by decide) rfl (Form.read_imm8 _ _ _)
  | ldAtIxDR _ x | ldRAtIxD x _ => cases x <;> exact decode_dd (by decide) rfl (Form.read_imm8 _ _ _)
  | ldIxMn _ | ldAtMnIx _ | ldIxAtMn _ | ldpAtMnIx _ | ldpIxAtMn _ =>
    exact decode_dd (by decide) rfl (Form.read_imm16 _ _ _)
  | ldAtIxDN _ _ => exact decode_dd (by decide) rfl (Form.read_disp8imm8 _ _ _ _)
  | ldpAtIyHl | ldpHlAtIy | ldHlIy | ldIyHl | ldSpIy | exAtSpIy | popIy | pushIy | andIyDe | boolIy | decIy | incIy
  | orIyDe | rrIy | jpAtIy => exact decode_fd (by decide) rfl (Form.read_done _ _)
  | addIyYy x => cases x <;> exact decode_fd (by decide) rfl (Form.read_done _ _)
  | ldAtSpNIy _ | ldIyAtSpN _ | ldAtIyDHl _ | ldHlAtIyD _ | adcAAtIyD _ | addAAtIyD _ | andAtIyD _ | cpAtIyD _
  | orAtIyD _ | sbcAAtIyD _ | subAtIyD _ | xorAtIyD _ | decAtIyD _ | incAtIyD _ =>
    exact decode_fd (by decide) rfl (Form.read_imm8 _ _ _)
  | ldAtIyDR _ x | ldRAtIyD x _ => cases x <;> exact decode_fd (by decide) rfl (Form.read_imm8 _ _ _)
  | ldIyMn _ | ldAtMnIy _ | ldIyAtMn _ | ldpAtMnIy _ | ldpIyAtMn _ =>
    exact decode_fd (by decide) rfl (Form.read_imm16 _ _ _)
  | ldAtIyDN _ _ => exact decode_fd (by decide) rfl (Form.read_disp8imm8 _ _ _ _)
  | rlAtIxD _ | rlcAtIxD _ | rrAtIxD _ | rrcAtIxD _ | slaAtIxD _ | sraAtIxD _ | srlAtIxD _ =>
    exact decode_ddcb rfl (Form.read_imm8 _ _ _)
  | bitBAtIxD b _ | resBAtIxD b _ | setBAtIxD b _ => cases b using bitSelect_cases <;> exact decode_ddcb rfl (Form.read_imm8 _ _ _)
  | rlAtIyD _ | rlcAtIyD _ | rrAtIyD _ | rrcAtIyD _ | slaAtIyD _ | sraAtIyD _ | srlAtIyD _ =>
    exact decode_fdcb rfl (Form.read_imm8 _ _ _)
  | bitBAtIyD b _ | resBAtIyD b _ | setBAtIyD b _ => cases b using bitSelect_cases <;> exact decode_fdcb rfl (Form.read_imm8 _ _ _)
  | ldRG r g => exact decode_ldRG hw rest
  | altd => exact congrArg Except.ok (decodeAltd_of_head (hhead rfl))
  | exDeaHla | exDeHla => rfl
  | idet =>
    cases rev with
    | r3000 => simp [WellFormed, Instr.only3000A] at hw
    | r3000A => exact decode_main (by decide) rfl (Form.read_done _ _)
  | uma | ums | lddsr | ldisr | lsdr | lsir | lsddr | lsidr | setusr | pushSu | popSu | sures | rdmode | syscall =>
    exact decode_added hok hw rfl rfl rfl rfl rest

end Sys2Proof
end

section
/-! What User mode cannot reach (`60_exceptions.md` R655, R656): the registers it is kept from, and which operations on the
devices leave them alone. -/
namespace Sys2Proof.Machine

/-- The memory-management, protection, user-enable, clock, global-control and watchdog registers. -/
def Dev.secured (d : Dev) : Mmu × UserRegs × SysCtl × Watchdog := (d.mmu, d.user, d.sys, d.wdt)

/-- The registers a read or write of which can change that part. -/
def IoReg.secured : IoReg → Bool
  | .gcsr => true | .wdtcr => true | .wdttr => true | .gcm0r => true | .gcm1r => true | .swdtr => true | .gpscr => true
  | .gocr => true | .gcdr => true | .mmidr => true | .stackseg => true | .dataseg => true | .segsize => true
  | .mbcr _ => true | .mecr => true | .mtcr => true | .bdcr => true | .uer _ => true | .edmr => true | .wpcr => true
  | .stkcr => true | .stkllr => true | .stkhlr => true | .ramsr => true | .wplr => true | .wphr => true
  | .wpsr _ => true | .wpslr _ => true | .wpshr _ => true
  | _ => false

/-! The peripherals -/

theorem secured_readPins (rev : Rev) (d : Dev) (p : PortId) : (readPins rev d p).2.secured = d.secured := by
  unfold readPins; split <;> rfl

theorem secured_samplePin (rev : Rev) (d : Dev) (p : PortId) (k : Fin 8) :
    (samplePin rev d p k).2.secured = d.secured := by
  unfold samplePin; split <;> rfl

theorem secured_quadSample (rev : Rev) (d : Dev) (sel : BitVec 2) (x : Fin 2) :
    (quadSample rev d sel x).2.secured = d.secured :=
  (secured_samplePin _ _ _ _).trans (secured_samplePin _ _ _ _)

theorem secured_quadControl (rev : Rev) (d : Dev) (v : Byte) : (quadControl rev d v).secured = d.secured := by
  have hreselect : ∀ (x : Fin 2) (e : Dev), (quadReselect rev v x e).secured = e.secured := fun x e => by
    unfold quadReselect
    split
    · rfl
    · exact secured_quadSample _ _ _ _
  have hwiden : ∀ (x : Fin 2) (e : Dev), (quadWiden rev v x e).secured = e.secured := fun x e => by
    unfold quadWiden; split <;> rfl
  exact (hwiden _ _).trans ((hwiden _ _).trans ((hreselect _ _).trans (hreselect _ _)))

theorem secured_serialRead (d : Dev) (p : SerialId) (b : Bool) : (serialRead d p b).2.secured = d.secured := by
  show (if (d.ser p).inHdlc p then d.draw else (0, d)).2.secured = d.secured
  split <;> rfl

theorem secured_serialWrite (cfg : Params) (d : Dev) (p : SerialId) (c : TxChar) :
    (serialWrite cfg d p c).secured = d.secured := by
  unfold serialWrite; split <;> rfl

theorem secured_serialControl (cfg : Params) (d : Dev) (p : SerialId) (v : Byte) :
    (serialControl cfg d p v).secured = d.secured := by
  unfold serialControl; dsimp only; split <;> rfl

theorem secured_serialDeliver (cfg : Params) (d : Dev) (p : SerialId) (c : RxChar) :
    (serialDeliver cfg d p c).secured = d.secured := by
  unfold serialDeliver; split <;> rfl

theorem secured_serialBurstRx (cfg : Params) (d : Dev) (p : SerialId) (b : Bool) (v : Byte) :
    (serialBurstRx cfg d p b v).secured = d.secured := by
  unfold serialBurstRx
  split
  · exact secured_serialDeliver _ _ _ _
  · rfl

theorem secured_serialBurstTx (cfg : Params) (d : Dev) (p : SerialId) (b : Bool) :
    (serialBurstTx cfg d p b).secured = d.secured := by
  unfold serialBurstTx; split <;> rfl

theorem secured_serialBurstReady (cfg : Params) (d : Dev) (p : SerialId) :
    (serialBurstReady cfg d p).secured = d.secured := by
  unfold serialBurstReady
  dsimp only
  split
  · exact secured_serialBurstRx _ _ _ _ _
  · rfl

theorem secured_serialBurstEnd (cfg : Params) (d : Dev) (p : SerialId) (v : Byte) :
    (serialBurstEnd cfg d p v).secured = d.secured := by
  unfold serialBurstEnd
  dsimp only
  split
  · exact (secured_serialBurstTx _ _ _ _).trans (secured_serialBurstRx _ _ _ _ _)
  · rfl

theorem secured_serialUnitEnd (cfg : Params) (d : Dev) (p : SerialId) : (serialUnitEnd cfg d p).secured = d.secured := by
  unfold serialUnitEnd
  dsimp only
  split
  · rfl
  · split <;> rfl
  · rfl

theorem secured_unitPulse (cfg : Params) (d : Dev) (p : SerialId) : (unitPulse cfg d p).secured = d.secured := by
  unfold unitPulse
  dsimp only
  split
  · rfl
  · split
    · split
      · rfl
      · split
        · rfl
        · exact secured_serialUnitEnd _ _ _
    · exact secured_serialUnitEnd _ _ _

theorem secured_burstPulse (cfg : Params) (d : Dev) (p : SerialId) : (burstPulse cfg d p).secured = d.secured := by
  have hsample : ∀ b : Bool, (if b then samplePin cfg.rev d ((d.ser p).rxPin p).1 ((d.ser p).rxPin p).2
      else (true, d)).2.secured = d.secured := fun b => by
    cases b
    · rfl
    · exact secured_samplePin _ _ _ _
  unfold burstPulse
  dsimp only
  split
  · exact hsample _
  · split
    · split
      · exact (secured_serialBurstReady _ _ _).trans (hsample _)
      · exact hsample _
    · exact (secured_serialBurstEnd _ _ _ _).trans (hsample _)

theorem secured_serialPulse (cfg : Params) (d : Dev) (p : SerialId) : (serialPulse cfg d p).secured = d.secured := by
  unfold serialPulse
  dsimp only
  split
  · split
    · exact secured_burstPulse _ _ _
    · rfl
  · split
    · rfl
    · split
      · rfl
      · exact secured_unitPulse _ _ _

theorem secured_captureTick (rev : Rev) (d : Dev) (x : Fin 2) : (captureTick rev d x).secured = d.secured :=
  (secured_samplePin _ (samplePin _ _ _ _).2 _ _).trans (secured_samplePin _ _ _ _)

theorem secured_quadTick (cfg : Params) (d : Dev) (x : Fin 2) : (quadTick cfg d x).secured = d.secured := by
  unfold quadTick
  dsimp only
  split
  · exact secured_quadSample _ _ _ _
  · rfl

theorem secured_ite {b : Bool} {d e f : Dev} (he : e.secured = f.secured) (hd : d.secured = f.secured) :
    (if b then e else d).secured = f.secured := by
  cases b
  · exact hd
  · exact he

/-- One cycle of the peripheral clock. -/
theorem secured_perclkTick (cfg : Params) (d : Dev) : (perclkTick cfg d).secured = d.secured := by
  have hpulses : ∀ (g : SerialId → Bool) (l : List SerialId) (e : Dev),
      (l.foldl (fun e id => if g id then serialPulse cfg e id else e) e).secured = e.secured := fun g l => by
    induction l with
    | nil => exact fun _ => rfl
    | cons id l ih => exact fun e => (ih _).trans (secured_ite (secured_serialPulse _ _ _) rfl)
  have hset : ∀ (e : Dev) (p : SerialId) (x : SerialPort), (e.setSer p x).secured = e.secured := fun _ _ _ => rfl
  have hmatch : ∀ (b1 b2 : Bool) (e : Dev), (matchSerial b1 b2 e).secured = e.secured := fun b1 b2 e => by
    simp only [matchSerial, List.foldl_cons, List.foldl_nil, hset]
  have hcapture : ∀ e : Dev, (captureTick cfg.rev (captureTick cfg.rev e 0) 1).secured = e.secured := fun e =>
    (secured_captureTick _ _ _).trans (secured_captureTick _ _ _)
  have hquad : ∀ e : Dev, (quadTick cfg (quadTick cfg e 0) 1).secured = e.secured := fun e =>
    (secured_quadTick _ _ _).trans (secured_quadTick _ _ _)
  have hpwm : ∀ (b : Bool) (e : Dev), (if b then { e with pwm := Pwm.tick cfg.rev e.pwm } else e).secured = e.secured :=
    fun b e => secured_ite rfl rfl
  have hcap : ∀ (b : Bool) (e : Dev),
      (if b then captureTick cfg.rev (captureTick cfg.rev e 0) 1 else e).secured = e.secured :=
    fun b e => secured_ite (hcapture e) rfl
  have hqd : ∀ (b : Bool) (e : Dev), (if b then quadTick cfg (quadTick cfg e 0) 1 else e).secured = e.secured :=
    fun b e => secured_ite (hquad e) rfl
  have hedges : ∀ o e : Dev, (catchEdges cfg.rev o e).secured = e.secured := fun _ _ => rfl
  simp only [perclkTick, hedges, hqd, hpwm, hcap, hmatch, hpulses]
  rfl

theorem secured_perclkTicks (cfg : Params) (n : Nat) (d : Dev) : (perclkTicks cfg n d).secured = d.secured := by
  induction n generalizing d with
  | zero => rfl
  | succ n ih => exact (ih _).trans (secured_perclkTick cfg d)

/-! The I/O spaces -/

theorem secured_readReg (cfg : Params) (d : Dev) {r : IoReg} (hr : r.secured = false) :
    (readReg cfg d r).2.secured = d.secured := by
  cases r with
  | gcsr => cases hr
  | serial p q => cases q <;> first | rfl | exact secured_serialRead _ _ _
  | padr | pbdr | pcdr | portDr _ => exact secured_readPins _ _ _
  | _ => rfl

theorem secured_writeReg {cfg : Params} {d e : Dev} {r : IoReg} {v : Byte} (hr : r.secured = false)
    (hw : writeReg cfg d r v = .ok e) : e.secured = d.secured := by
  cases r with
  | gcsr | wdtcr | wdttr | gcm0r | gcm1r | swdtr | gpscr | gocr | gcdr | mmidr | stackseg | dataseg | segsize | mbcr _
  | mecr | mtcr | bdcr | uer _ | edmr | wpcr | stkcr | stkllr | stkhlr | ramsr | wplr | wphr | wpsr _ | wpslr _
  | wpshr _ => cases hr
  | qdcr => obtain ⟨-, rfl⟩ := guarded_ok hw; exact secured_quadControl _ _ _
  | rtc _ | spcr => injection hw with hw; subst hw; split <;> rfl
  | serial p q =>
    cases q with
    | lr =>
      unfold writeReg at hw
      dsimp only at hw
      split at hw
      · cases hw
      · injection hw with hw; subst hw; exact secured_serialWrite _ _ _ _
    | cr =>
      unfold writeReg at hw
      dsimp only at hw
      split at hw
      · cases hw
      · injection hw with hw; subst hw; exact secured_serialControl _ _ _ _
    | er =>
      unfold writeReg at hw
      dsimp only at hw
      split at hw
      · cases hw
      · injection hw with hw; subst hw; rfl
    | dr | ar => injection hw with hw; subst hw; exact secured_serialWrite _ _ _ _
    | sr => injection hw with hw; subst hw; rfl
  | _ => injection hw with hw; subst hw; rfl

theorem secured_portABug (rev : Rev) (a : Nat) (v : Byte) (d : Dev) : (portABug rev a v d).secured = d.secured := by
  cases rev with
  | r3000 => show (if _ then _ else _ : Dev).secured = _; split <;> rfl
  | r3000A => rfl

theorem secured_extAddressPhase (rev : Rev) (d : Dev) (a : Word) (b : Bool) :
    (extAddressPhase rev d a b).secured = d.secured := by
  have hstrobe : ∀ (e : Dev) (k : Fin 8), (catchStrobe e k).secured = e.secured := fun e k => by
    unfold catchStrobe; split <;> rfl
  have hlatch : ∀ (c : Bool) (x : ExtBus), (if c then { d with bus := x } else d).secured = d.secured := fun c x =>
    secured_ite rfl rfl
  exact secured_ite ((hstrobe _ _).trans (hlatch _ _)) (hlatch _ _)

theorem secured_ioReadExternal (cfg : Params) (u : Bool) (d : Dev) (a : Word) :
    (ioReadExternal cfg u d a).2.secured = d.secured := by
  have hbus : ∀ (b : DataBus) (e : Dev), (unansweredRead b e).2.secured = e.secured := fun b e => by cases b <;> rfl
  unfold ioReadExternal
  dsimp only
  split
  · exact secured_extAddressPhase _ _ _ _
  · exact (hbus _ _).trans (secured_extAddressPhase _ _ _ _)
  · exact secured_extAddressPhase _ _ _ _

theorem secured_ioWriteExternal (cfg : Params) (u : Bool) (d : Dev) (a : Word) (v : Byte) :
    (ioWriteExternal cfg u d a v).secured = d.secured := secured_extAddressPhase _ _ _ _

/-! What User mode may reach -/

/-- The locations User mode can be given: the blocks of R656 and the bank control registers. -/
def userLocation (a : Nat) : Bool :=
  (userBlocks.any fun r => decide (r.2.1 ≤ a) && decide (a ≤ r.2.2)) || (decide (0x80 ≤ a) && decide (a < 0x88))

theorem userLocation_of_userAllowed {cfg : Params} {d : Dev} {a : Nat} (h : userAllowed cfg d a = true) :
    userLocation a = true := by
  simp only [userAllowed, userLocation, Bool.or_eq_true, List.any_eq_true, Bool.and_eq_true, decide_eq_true_eq] at h ⊢
  rcases h with ⟨r, hr, ⟨hlo, hhi⟩, -⟩ | h
  · exact .inl ⟨r, hr, hlo, hhi⟩
  · split at h
    · exact .inr ‹_›
    · cases h

/-- The whole register map. -/
def ioTable : List (Nat × IoReg) := ioTable0 ++ ioTable1 ++ ioTable2 ++ ioTable3 ++ ioTable3000A

theorem mem_ioTable_of_ofAddr {rev : Rev} {a : Nat} {r : IoReg} (h : IoReg.ofAddr rev a = some r) : (a, r) ∈ ioTable := by
  cases rev with
  | r3000 => exact List.mem_append_left _ (mem_of_lookup h)
  | r3000A => exact mem_of_lookup h

/-- No register of the secured part is at a location User mode can be given. -/
theorem ioTable_secured : ∀ x ∈ ioTable, userLocation x.1 = true → x.2.secured = false := by
  have h0 : (ioTable0.all fun x => !userLocation x.1 || !x.2.secured) = true := by decide
  have h1 : (ioTable1.all fun x => !userLocation x.1 || !x.2.secured) = true := by decide
  have h2 : (ioTable2.all fun x => !userLocation x.1 || !x.2.secured) = true := by decide
  have h3 : (ioTable3.all fun x => !userLocation x.1 || !x.2.secured) = true := by decide
  have h3000A : (ioTable3000A.all fun x => !userLocation x.1 || !x.2.secured) = true := by decide
  have h : (ioTable.all fun x => !userLocation x.1 || !x.2.secured) = true := by
    simp only [ioTable, List.all_append, h0, h1, h2, h3, h3000A, Bool.and_self]
  intro x hx hloc
  simpa [hloc] using List.all_eq_true.1 h x hx

theorem not_secured_of_userAllowed {cfg : Params} {d : Dev} {a : Nat} {r : IoReg} (ha : userAllowed cfg d a = true)
    (hr : IoReg.ofAddr cfg.rev a = some r) : r.secured = false :=
  ioTable_secured _ (mem_ioTable_of_ofAddr hr) (userLocation_of_userAllowed ha)

/-- A User-mode read of internal I/O space. -/
theorem secured_ioReadInternal (cfg : Params) (d : Dev) (a : Word) :
    (ioReadInternal cfg true d a).2.secured = d.secured := by
  unfold ioReadInternal
  dsimp only
  split
  · rfl
  · rename_i hallow
    split
    · rename_i r hr
      exact secured_readReg cfg d (not_secured_of_userAllowed (by simpa using hallow) hr)
    · rfl

/-- A User-mode write of internal I/O space. -/
theorem secured_ioWriteInternal {cfg : Params} {d e : Dev} {a : Word} {v : Byte}
    (hw : ioWriteInternal cfg true d a v = .ok e) : e.secured = d.secured := by
  unfold ioWriteInternal at hw
  dsimp only at hw
  split at hw
  · injection hw with hw; exact hw ▸ rfl
  · rename_i hallow
    unfold writeLocation at hw
    split at hw
    · rename_i r hr
      cases hq : writeReg cfg d r v with
      | error x => rw [hq] at hw; cases hw
      | ok f =>
        rw [hq] at hw
        injection hw with hw; subst hw
        exact (secured_portABug _ _ _ _).trans
          (secured_writeReg (not_secured_of_userAllowed (by simpa using hallow) hr) hq)
    · injection hw with hw; subst hw
      exact secured_portABug _ _ _ _

/-! While no peripheral is enabled for User mode -/

/-- The devices differ in the count of free values, the violation requests, the auxiliary address latch and the record of
external I/O alone. -/
def Quiet (d e : Dev) : Prop :=
  e = { d with free := e.free, viol := e.viol, bus := { d.bus with auxAddr := e.bus.auxAddr }, outLog := e.outLog }

theorem Quiet.refl (d : Dev) : Quiet d d := rfl

theorem Quiet.trans {d e f : Dev} (h : Quiet d e) (k : Quiet e f) : Quiet d f := by
  unfold Quiet at *
  rw [k, h]

theorem Quiet.user {d e : Dev} (h : Quiet d e) : e.user = d.user := by rw [h]

theorem Quiet.inside {d e : Dev} (h : Quiet d e) : e.inside = d.inside := by rw [h]

section
variable {cfg : Params} {d : Dev} (hd : d.user.uer = Vector.replicate 22 0)
include hd

theorem uer_eq_zero (k : Fin 22) : d.user.uer[k] = 0 := by
  rw [hd]
  exact Vector.getElem_replicate k.isLt

theorem userEnabled_eq_false (k : Fin 22) : userEnabled cfg d k = false := by
  simp only [userEnabled, uer_eq_zero hd, uerEnables, bit]
  split <;> simp

theorem bankUserEnabled_eq_false (b : Fin 8) : bankUserEnabled cfg d b = false := by
  simp only [bankUserEnabled, uer_eq_zero hd, uerEnablesBank, bit]
  split <;> simp

theorem userAllowed_eq_false (a : Nat) : userAllowed cfg d a = false := by
  simp [userAllowed, userEnabled_eq_false hd, bankUserEnabled_eq_false hd]

theorem ioReadInternal_quiet (a : Word) : Quiet d (ioReadInternal cfg true d a).2 := by
  have h : (ioReadInternal cfg true d a) = d.draw := by simp [ioReadInternal, userAllowed_eq_false hd]
  rw [h]
  rfl

theorem ioWriteInternal_quiet {a : Word} {v : Byte} {e : Dev} (hw : ioWriteInternal cfg true d a v = .ok e) : Quiet d e := by
  have h : ioWriteInternal cfg true d a v = .ok d := by simp [ioWriteInternal, userAllowed_eq_false hd]
  rw [h] at hw
  injection hw with hw
  exact hw ▸ .refl d

theorem strobeBlocked_eq_true (b : Fin 8) : strobeBlocked cfg true d b = true := by
  simp [strobeBlocked, bankUserEnabled_eq_false hd]

theorem strobes_eq_false (a : Word) : readStrobe cfg true d a = false ∧ writeStrobe cfg true d a = false := by
  simp [readStrobe, writeStrobe, strobeEnabled, strobeBlocked_eq_true hd]

omit hd in
theorem extAddressPhase_quiet (a : Word) : Quiet d (extAddressPhase cfg.rev d a false) := by
  show Quiet d (if _ then _ else d)
  split <;> rfl

theorem ioReadExternal_quiet (a : Word) : Quiet d (ioReadExternal cfg true d a).2 := by
  have h : (ioReadExternal cfg true d a).2 = ((extAddressPhase cfg.rev d a false).draw).2.show
      (.extRead (dataBus cfg.rev d a) a false ((extAddressPhase cfg.rev d a false).draw).1) := by
    simp only [ioReadExternal, (strobes_eq_false hd a).1, strobeBlocked_eq_true hd]
  rw [h]
  exact (extAddressPhase_quiet (cfg := cfg) a).trans rfl

theorem ioWriteExternal_quiet (a : Word) (v : Byte) : Quiet d (ioWriteExternal cfg true d a v) := by
  unfold ioWriteExternal
  rw [(strobes_eq_false hd a).2]
  exact (extAddressPhase_quiet (cfg := cfg) a).trans rfl

end

end Sys2Proof.Machine
end

section
/-! What an instruction can do: a sequence of accesses and register changes, then the end of the instruction.  One case split
over the instructions; what every instruction keeps follows from it access by access. -/
namespace Sys2Proof.Machine

/-- The CPU changes from `c` to `d` as `i` may change it: IP, SU, XPC, IIR and EIR by the instructions named alone, and User
mode left by four of them (`10_state.md` R26 to R29, `60_exceptions.md` R653). -/
structure CpuStep (i : Instr) (c d : Cpu) : Prop where
  ip : d.ip ≠ c.ip → i ∈ [.ipset0, .ipset1, .ipset2, .ipset3, .ipres, .popIp, .reti]
  su : d.su ≠ c.su → i ∈ [.setusr, .sures, .popSu, .syscall] ∨ ∃ v, i = .rstV v
  xpc : d.xpc ≠ c.xpc → i = .ldXpcA ∨ i = .lret ∨ (∃ x mn, i = .ljpXMn x mn) ∨ ∃ x mn, i = .lcallXMn x mn
  iir : d.iir ≠ c.iir → i = .ldIirA
  eir : d.eir ≠ c.eir → i = .ldEirA
  leave : c.su.getLsbD 0 = true → d.su.getLsbD 0 = false → i ∈ [.sures, .popSu, .syscall] ∨ ∃ v, i = .rstV v

/-- A CPU with the same control registers. -/
theorem CpuStep.of_control {i : Instr} {c d : Cpu} (hip : d.ip = c.ip) (hsu : d.su = c.su) (hxpc : d.xpc = c.xpc)
    (hiir : d.iir = c.iir) (heir : d.eir = c.eir) : CpuStep i c d :=
  ⟨fun h => absurd hip h, fun h => absurd hsu h, fun h => absurd hxpc h, fun h => absurd hiir h, fun h => absurd heir h,
    fun h h' => by rw [hsu, h] at h'; cases h'⟩

theorem CpuStep.trans {i : Instr} {c d e : Cpu} (h : CpuStep i c d) (k : CpuStep i d e) : CpuStep i c e := by
  refine ⟨fun hne => ?_, fun hne => ?_, fun hne => ?_, fun hne => ?_, fun hne => ?_, fun h1 h2 => ?_⟩
  · by_cases he : e.ip = d.ip
    · exact h.ip (he ▸ hne)
    · exact k.ip he
  · by_cases he : e.su = d.su
    · exact h.su (he ▸ hne)
    · exact k.su he
  · by_cases he : e.xpc = d.xpc
    · exact h.xpc (he ▸ hne)
    · exact k.xpc he
  · by_cases he : e.iir = d.iir
    · exact h.iir (he ▸ hne)
    · exact k.iir he
  · by_cases he : e.eir = d.eir
    · exact h.eir (he ▸ hne)
    · exact k.eir he
  · cases hd : d.su.getLsbD 0
    · exact h.leave h1 hd
    · exact k.leave hd h2

/-- One access of a running instruction, or a change of registers that none of its accesses depends on. -/
inductive Act (i : Instr) : State → State → Prop where
  | read (s : State) (x : Bool) (pa : Phys) : Act i s (s.physRead x pa).2
  | write (s : State) (x : Bool) (pa : Phys) (v : Byte) : Act i s (s.physWrite x pa v)
  | ioRead (s : State) (a : Word) : Act i s { s with dev := (ioReadInternal s.cfg s.userMode s.dev a).2 }
  | extRead (s : State) (a : Word) : Act i s { s with dev := (ioReadExternal s.cfg s.userMode s.dev a).2 }
  | ioWrite (s : State) (a : Word) (v : Byte) {d : Dev} (h : ioWriteInternal s.cfg s.userMode s.dev a v = .ok d) :
      Act i s { s with dev := d, writesLeft := s.oneWriteLess }
  | extWrite (s : State) (a : Word) (v : Byte) :
      Act i s { s with dev := ioWriteExternal s.cfg s.userMode s.dev a v, writesLeft := s.oneWriteLess }
  | time (s : State) : Act i s { s with dev := perclkTicks s.cfg s.dev.inside { s.dev with inside := 0 } }
  | request (s : State) (x : Violations) : Act i s { s with dev := { s.dev with viol := x } }
  | regs (s : State) {c : Cpu} (h : CpuStep i s.cpu c) (hsu : c.su = s.cpu.su) (hxpc : c.xpc = s.cpu.xpc) :
      Act i s { s with cpu := c }

/-- Any number of them. -/
inductive Acts (i : Instr) : State → State → Prop where
  | refl (s : State) : Acts i s s
  | tail {s t u : State} (h : Acts i s t) (k : Act i t u) : Acts i s u

section
variable {i : Instr} {s t u : State}

theorem Acts.trans (h : Acts i s t) (k : Acts i t u) : Acts i s u := by
  induction k with
  | refl => exact h
  | tail _ k ih => exact ih.tail k

theorem Acts.then (h : Acts i s t) (k : Act i t u) : Acts i s u := h.tail k

theorem Act.acts (h : Act i s t) : Acts i s t := (Acts.refl s).tail h

/-! Register changes -/

/-- A change of the byte registers, the index registers, SP or PC. -/
theorem Acts.regs (h : Acts i s t) {c : Cpu} (hip : c.ip = t.cpu.ip) (hsu : c.su = t.cpu.su) (hxpc : c.xpc = t.cpu.xpc)
    (hiir : c.iir = t.cpu.iir) (heir : c.eir = t.cpu.eir) : Acts i s { t with cpu := c } :=
  h.then (.regs t (.of_control hip hsu hxpc hiir heir) hsu hxpc)

theorem Acts.onMain (h : Acts i s t) (g : RegSet → RegSet) : Acts i s (t.onMain g) := h.regs rfl rfl rfl rfl rfl
theorem Acts.onAlt (h : Acts i s t) (g : RegSet → RegSet) : Acts i s (t.onAlt g) := h.regs rfl rfl rfl rfl rfl
theorem Acts.setIx (h : Acts i s t) (w : Word) : Acts i s (t.setIx w) := h.regs rfl rfl rfl rfl rfl
theorem Acts.setIy (h : Acts i s t) (w : Word) : Acts i s (t.setIy w) := h.regs rfl rfl rfl rfl rfl
theorem Acts.setSp (h : Acts i s t) (w : Word) : Acts i s (t.setSp w) := h.regs rfl rfl rfl rfl rfl
theorem Acts.setPc (h : Acts i s t) (w : Word) : Acts i s (t.setPc w) := h.regs rfl rfl rfl rfl rfl

theorem Acts.onDst (h : Acts i s t) (g : RegSet → RegSet) : Acts i s (t.onDst g) := by
  unfold State.onDst
  split
  · exact h.onAlt g
  · exact h.onMain g

theorem Acts.setDstSs (h : Acts i s t) (ss : SS) (w : Word) : Acts i s (t.setDstSs ss w) := by
  cases ss with
  | bc | de | hl => exact h.onDst _
  | sp => exact h.setSp w

theorem Acts.ite {b : Prop} [Decidable b] (ht : Acts i s t) (hu : Acts i s u) : Acts i s (if b then t else u) := by
  split
  · exact ht
  · exact hu

theorem Acts.repeatWhileBc (h : Acts i s t) : Acts i s t.repeatWhileBc := .ite h (h.setPc _)

/-! Reads -/

theorem Acts.memRead (h : Acts i s t) (a : Word) : Acts i s (t.memRead a).2 := h.then (.read ..)

theorem Acts.load8 (h : Acts i s t) (a : Word) : Acts i s (t.load8 a).2 := by
  unfold State.load8
  split
  · exact h.memRead a
  · exact h.then (.ioRead t a)
  · exact h.then (.extRead t a)

theorem Acts.timeInside (h : Acts i s t) : Acts i s t.timeInside := by
  unfold State.timeInside
  split
  · exact h
  · exact h.then (.time t)
  · exact h.then (.time t)

theorem Acts.load16 (h : Acts i s t) (a : Word) : Acts i s (t.load16 a).2 := ((h.load8 a).timeInside).load8 (a + 1)

theorem Acts.ldpRead (h : Acts i s t) (p : Word) : Acts i s (t.ldpRead p).2 := (h.then (.read ..)).then (.read ..)

theorem Acts.checkStack (h : Acts i s t) (a : Word) : Acts i s (t.checkStack a) := h.then (.request t _)

theorem Acts.stackRead (h : Acts i s t) (a : Word) : Acts i s (t.stackRead a).2 := (h.checkStack a).memRead a

theorem Acts.stackRead16 (h : Acts i s t) (a : Word) : Acts i s (t.stackRead16 a).2 := (h.stackRead a).stackRead (a + 1)

theorem Acts.pop8 (h : Acts i s t) : Acts i s t.pop8.2 := (h.stackRead _).setSp _

theorem Acts.pop16 (h : Acts i s t) : Acts i s t.pop16.2 := (h.stackRead16 _).setSp _

theorem Acts.popPc (h : Acts i s t) : Acts i s t.popPc := h.pop16.setPc _

theorem Acts.umRead (h : Acts i s t) : Acts i s t.umRead.2.2 := (h.memRead _).memRead _

/-! Writes -/

theorem Acts.memWrite (h : Acts i s t) (a : Word) (v : Byte) : Acts i s (t.memWrite a v) := h.then (.write ..)

theorem Acts.ldpWrite (h : Acts i s t) (p w : Word) : Acts i s (t.ldpWrite p w) := (h.then (.write ..)).then (.write ..)

theorem Acts.stackWrite (h : Acts i s t) (a : Word) (v : Byte) : Acts i s (t.stackWrite a v) := (h.checkStack a).memWrite a v

theorem Acts.stackWrite16 (h : Acts i s t) (a w : Word) : Acts i s (t.stackWrite16 a w) :=
  (h.stackWrite a _).stackWrite (a + 1) _

theorem Acts.push8 (h : Acts i s t) (v : Byte) : Acts i s (t.push8 v) := (h.stackWrite _ v).setSp _

theorem Acts.push16 (h : Acts i s t) (w : Word) : Acts i s (t.push16 w) := ((h.stackWrite _ _).stackWrite _ _).setSp _

theorem Acts.umEnd (h : Acts i s t) (q : BitVec 17) : Acts i s (t.umEnd q) :=
  ((((h.onAlt _).onMain _).setIx _).setIy _).repeatWhileBc

end

/-! Writes that may be refused -/

/-- The instructions R658 refuses in User mode (`60_exceptions.md` R658). -/
abbrev raisesPriority (i : Instr) : Prop := i ∈ [.ipset3, .popIp, .reti, .sures, .popSu]

/-- A part of the instruction goes on after accesses, or is refused, but not for its priority. -/
def Goes (i : Instr) (s : State) : Result → Prop
  | .next t => Acts i s t
  | .fault _ => False
  | .refused e => ∀ m, e ≠ .userPriority m

theorem Goes.bind {i : Instr} {s : State} {r : Result} {g : State → Result} (hr : Goes i s r)
    (hg : ∀ t, Acts i s t → Goes i s (g t)) : Goes i s (andThen r g) := by
  cases r with
  | next t => exact hg t hr
  | fault e => cases e
  | refused e => exact hr

theorem writeReg_error {cfg : Params} {d : Dev} {r : IoReg} {v : Byte} {e : Refusal} (h : writeReg cfg d r v = .error e)
    (m : String) : e ≠ .userPriority m := by
  have hguarded : ∀ {ok : Bool} {n : String} {f : Dev}, guarded ok n v f = .error e → e ≠ .userPriority m := by
    intro ok n f hf
    unfold guarded at hf
    split at hf <;> cases hf
    exact Refusal.noConfusion
  cases r with
  | gcm0r | gcm1r | gpscr | gcdr | mtcr | bdcr | qdcr | edmr | wpcr | stkcr | wpsr _ => exact hguarded h
  | serial p q =>
    cases q with
    | lr | cr | er =>
      unfold writeReg at h
      dsimp only at h
      split at h <;> cases h
      exact Refusal.noConfusion
    | _ => cases h
  | _ => cases h

theorem ioWriteInternal_error {cfg : Params} {u : Bool} {d : Dev} {a : Word} {v : Byte} {e : Refusal}
    (h : ioWriteInternal cfg u d a v = .error e) (m : String) : e ≠ .userPriority m := by
  unfold ioWriteInternal at h
  dsimp only at h
  split at h
  · cases h
  · unfold writeLocation at h
    split at h
    · rename_i r _
      cases hq : writeReg cfg d r v with
      | ok f => rw [hq] at h; cases h
      | error x =>
        rw [hq] at h
        injection h with h; subst h
        exact writeReg_error hq m
    · cases h

theorem Acts.store8 {i : Instr} {s t : State} (h : Acts i s t) (a : Word) (v : Byte) : Goes i s (t.store8 a v) := by
  unfold State.store8
  split
  · exact h.memWrite a v
  · unfold State.ioWrite
    split
    · cases hw : ioWriteInternal t.cfg t.userMode t.dev a v with
      | ok d => exact h.then (.ioWrite t a v hw)
      | error e => exact ioWriteInternal_error hw
    · exact h
  · unfold State.ioWrite
    split
    · exact h.then (.extWrite t a v)
    · exact h

theorem Acts.store16 {i : Instr} {s t : State} (h : Acts i s t) (a w : Word) : Goes i s (t.store16 a w) :=
  (h.store8 a _).bind fun _ hu => hu.store8 _ _

/-! The end of an instruction -/

/-- The instruction ends: after its accesses come its last registers and, but for a latch-setting one, the consumed latches
and the deferral of a privileged one; or it is refused, for its priority only where R658 says so. -/
def Ends (i : Instr) (s : State) : Result → Prop
  | .next t => ∃ u c, Acts i s u ∧ CpuStep i u.cpu c ∧ t = { u with cpu := c } ∧
      (isPrefix i = false → c.altd = false ∧ c.iospace = .memory ∧ c.defer = privileged i)
  | .fault _ => False
  | .refused e => ∀ m, e = .userPriority m → raisesPriority i

section
variable {i : Instr} {s u : State}

/-- The last registers written, then completion. -/
theorem Ends.write {c : Cpu} {p : Bool} (h : Acts i s u) (hc : CpuStep i u.cpu c) (hp : p = privileged i) :
    Ends i s (.next { u with cpu := c.retire p }) :=
  ⟨u, c.retire p, h, ⟨hc.ip, hc.su, hc.xpc, hc.iir, hc.eir, hc.leave⟩, rfl, fun _ => ⟨rfl, rfl, hp⟩⟩

theorem Acts.done (h : Acts i s u) (hp : privileged i = false) : Ends i s u.done :=
  .write h (.of_control rfl rfl rfl rfl rfl) hp.symm

theorem Acts.doneHeld (h : Acts i s u) (hp : privileged i = true) : Ends i s u.doneHeld :=
  .write h (.of_control rfl rfl rfl rfl rfl) hp.symm

theorem Goes.andThenEnds {r : Result} {g : State → Result} (hr : Goes i s r) (hg : ∀ t, Acts i s t → Ends i s (g t)) :
    Ends i s (andThen r g) := by
  cases r with
  | next t => exact hg t hr
  | fault e => cases e
  | refused e => exact fun m hm => absurd hm (hr m)

theorem Goes.done {r : Result} (hr : Goes i s r) (hp : privileged i = false) : Ends i s (andThen r State.done) :=
  hr.andThenEnds fun _ h => h.done hp

theorem Goes.repeats {r : Result} (hr : Goes i s r) (hp : privileged i = false) :
    Ends i s (andThen r fun t => t.repeatWhileBc.done) :=
  hr.andThenEnds fun _ h => h.repeatWhileBc.done hp

theorem Ends.unlessPriorityRefused {r : Result} {n : String} (h : Ends i s r) (hi : raisesPriority i) :
    Ends i s (s.unlessPriorityRefused n r) := by
  unfold State.unlessPriorityRefused
  split
  · exact fun _ _ => hi
  · exact h

/-! The shapes several instructions share -/

theorem Ends.storeByte (a : Word) (v : Byte) (hp : privileged i = false) : Ends i s (s.storeByte a v) :=
  ((Acts.refl s).store8 a v).done hp

theorem Ends.storeWord (a w : Word) (hp : privileged i = false) : Ends i s (s.storeWord a w) :=
  ((Acts.refl s).store16 a w).done hp

theorem Ends.loadByte (r : R8) (a : Word) (hp : privileged i = false) : Ends i s (s.loadByte r a) :=
  (((Acts.refl s).load8 a).onDst _).done hp

theorem Ends.loadWord (ss : SS) (a : Word) (hp : privileged i = false) : Ends i s (s.loadWord ss a) :=
  (((Acts.refl s).load16 a).setDstSs ss _).done hp

theorem Ends.aluAt (op : AluOp) (a : Word) (hp : privileged i = false) : Ends i s (s.aluAt op a) :=
  (((Acts.refl s).load8 a).onDst _).done hp

theorem Ends.modify (a : Word) (g : Byte → Byte × (Byte → Byte)) (hp : privileged i = false) : Ends i s (s.modify a g) :=
  (((Acts.refl s).load8 a).store8 a _).andThenEnds fun _ h => (h.onDst _).done hp

theorem Ends.incAt (a : Word) (hp : privileged i = false) : Ends i s (s.incAt a) := .modify _ _ hp

theorem Ends.decAt (a : Word) (hp : privileged i = false) : Ends i s (s.decAt a) := .modify _ _ hp

theorem Ends.shiftAt (op : ShiftOp) (a : Word) (hp : privileged i = false) : Ends i s (s.shiftAt op a) := .modify _ _ hp

/-- A result in the destination set and its flags. -/
theorem Ends.dstFlags (k : RegSet → RegSet) (g : Byte → Byte) (hp : privileged i = false) :
    Ends i s ((s.onDst k).onFlags g).done := (((Acts.refl s).onDst k).onDst _).done hp

/-- A result in IX and its flags. -/
theorem Ends.ixFlags (w : Word) (g : Byte → Byte) (hp : privileged i = false) : Ends i s (s.ixResult w g) :=
  (((Acts.refl s).setIx w).onDst _).done hp

/-- A result in IY and its flags. -/
theorem Ends.iyFlags (w : Word) (g : Byte → Byte) (hp : privileged i = false) : Ends i s (s.iyResult w g) :=
  (((Acts.refl s).setIy w).onDst _).done hp

theorem Acts.blockOut (x y : Stride) : Goes i s (s.blockOut x y) :=
  (((Acts.refl s).memRead _).store8 _ _).bind fun _ h => h.onMain _

theorem Acts.blockIn (x y : Stride) : Goes i s (s.blockIn x y) := (((Acts.refl s).load8 _).memWrite _ _).onMain _

/-- A write of IP as an instruction that may make it completes. -/
theorem Ends.setIp (h : Acts i s u) (v : Byte) (hi : i ∈ [.ipset0, .ipset1, .ipset2, .ipset3, .ipres, .popIp, .reti])
    (hp : privileged i = true) : Ends i s (u.setIp v).doneHeld :=
  .write (u := u) (c := { u.cpu with ip := v }) h
    { CpuStep.of_control (d := u.cpu) rfl rfl rfl rfl rfl with ip := fun _ => hi } hp.symm

theorem Acts.setIp {t : State} (h : Acts i s t) (v : Byte)
    (hi : i ∈ [.ipset0, .ipset1, .ipset2, .ipset3, .ipres, .popIp, .reti]) : Acts i s (t.setIp v) :=
  h.then (.regs t { CpuStep.of_control (d := t.cpu) rfl rfl rfl rfl rfl with ip := fun _ => hi } rfl rfl)

/-- A write of XPC, then one of PC. -/
theorem CpuStep.xpcPc {c : Cpu} (x : Byte) (w : Word)
    (hi : i = .ldXpcA ∨ i = .lret ∨ (∃ x mn, i = .ljpXMn x mn) ∨ ∃ x mn, i = .lcallXMn x mn) :
    CpuStep i c { c with xpc := x, pc := w } :=
  { CpuStep.of_control (d := c) rfl rfl rfl rfl rfl with xpc := fun _ => hi }

/-- A software trap: the push, then SU and PC. -/
theorem Ends.trap (off : Byte) (hi : i ∈ [.setusr, .sures, .popSu, .syscall] ∨ ∃ v, i = .rstV v)
    (hl : i ∈ [.sures, .popSu, .syscall] ∨ ∃ v, i = .rstV v) (hp : privileged i = false) : Ends i s (s.trap off).done :=
  .write (u := s.push16 s.cpu.pc) (c := { (s.push16 s.cpu.pc).cpu with
      su := (s.push16 s.cpu.pc).systemSu, pc := internalVector s.cpu.iir false off })
    ((Acts.refl s).push16 _)
    { CpuStep.of_control (d := (s.push16 s.cpu.pc).cpu) rfl rfl rfl rfl rfl with su := fun _ => hi, leave := fun _ _ => hl }
    hp.symm

end

/-- A mode pushed on SU is the one asked for. -/
theorem pushField_one_bit0 (x : Byte) : (pushField x 1).getLsbD 0 = true := by
  unfold pushField
  rw [BitVec.getLsbD_append]
  rfl

/-- A write of SU by POP SU or SURES, then completion. -/
theorem Ends.setSu {i : Instr} {s u : State} (h : Acts i s u) (v : Byte) (hi : i ∈ [.sures, .popSu])
    (hp : privileged i = true) : Ends i s (u.setSu v).doneHeld := by
  have hsu : i ∈ [.setusr, .sures, .popSu, .syscall] := by
    rcases List.mem_cons.1 hi with rfl | hi
    · decide
    · rw [List.mem_singleton.1 hi]; decide
  have hleave : i ∈ [.sures, .popSu, .syscall] := by
    rcases List.mem_cons.1 hi with rfl | hi
    · decide
    · rw [List.mem_singleton.1 hi]; decide
  exact .write (u := u) (c := { u.cpu with su := v }) h { CpuStep.of_control (d := u.cpu) rfl rfl rfl rfl rfl with
    su := fun _ => .inl hsu, leave := fun _ _ => .inl hleave } hp.symm

/-- A latch set, by one of the three instructions that set one. -/
theorem Ends.latch {i : Instr} {s : State} {c : Cpu} (hc : CpuStep i s.cpu c) (hi : isPrefix i = true) :
    Ends i s (.next { s with cpu := c }) :=
  ⟨s, c, .refl s, hc, rfl, fun h => absurd h (by simp [hi])⟩

/-- Every instruction is accesses and register changes, then its end. -/
theorem exec_ends (i : Instr) (s : State) : Ends i s (exec i s) := by
  cases i with
  | ldIxMn _ | ldIxHl | decIx | incIx => exact ((Acts.refl s).setIx _).done rfl
  | ldIyMn _ | ldIyHl | decIy | incIy => exact ((Acts.refl s).setIy _).done rfl
  | ldDdMn _ _ | decSs _ | incSs _ => exact ((Acts.refl s).setDstSs _ _).done rfl
  | ldRN _ _ | ldRG _ _ | ldHlIx | ldHlIy | cpl | adcAN _ | addAN _ | andN _ | cpN _ | orN _ | sbcAN _ | subN _
    | xorN _ | adcAR _ | addAR _ | andR _ | cpR _ | orR _ | sbcAR _ | subR _ | xorR _ | setBR _ _ | resBR _ _
    | bitBR _ _ | ccf | scf => exact ((Acts.refl s).onDst _).done rfl
  | ldAXpc => exact ((Acts.refl s).onDst _).doneHeld rfl
  | ldAEir | ldAIir | adcHlSs _ | addHlSs _ | sbcHlSs _ | andHlDe | orHlDe | boolHl | rlDe | rrDe | rrHl | decR _
    | incR _ | neg | rla | rlca | rra | rrca | rlR _ | rlcR _ | rrR _ | rrcR _ | slaR _ | sraR _ | srlR _ =>
    exact .dstFlags _ _ rfl
  | addIxXx _ | andIxDe | orIxDe | boolIx | rrIx => exact .ixFlags _ _ rfl
  | addIyYy _ | andIyDe | orIyDe | boolIy | rrIy => exact .iyFlags _ _ rfl
  | addSpD _ => exact (((Acts.refl s).setSp _).onDst _).done rfl
  | ldAAtMn _ | ldAAtBc | ldAAtDe | ldRAtHl _ | ldRAtIxD _ _ | ldRAtIyD _ _ => exact .loadByte _ _ rfl
  | ldAtMnA _ | ldAtBcA | ldAtDeA | ldAtHlN _ | ldAtHlR _ | ldAtIxDN _ _ | ldAtIxDR _ _ | ldAtIyDN _ _
    | ldAtIyDR _ _ => exact .storeByte _ _ rfl
  | ldHlAtMn _ | ldDdAtMn _ _ | ldHlAtHlD _ | ldHlAtIxD _ | ldHlAtIyD _ => exact .loadWord _ _ rfl
  | ldAtMnHl _ | ldAtMnIx _ | ldAtMnIy _ | ldAtMnSs _ _ | ldAtHlDHl _ | ldAtIxDHl _ | ldAtIyDHl _ =>
    exact .storeWord _ _ rfl
  | ldIxAtMn _ => exact (((Acts.refl s).load16 _).setIx _).done rfl
  | ldIyAtMn _ => exact (((Acts.refl s).load16 _).setIy _).done rfl
  | ldAtSpNHl _ | ldAtSpNIx _ | ldAtSpNIy _ => exact ((Acts.refl s).stackWrite16 _ _).done rfl
  | ldHlAtSpN _ => exact (((Acts.refl s).stackRead16 _).onDst _).done rfl
  | ldIxAtSpN _ => exact (((Acts.refl s).stackRead16 _).setIx _).done rfl
  | ldIyAtSpN _ => exact (((Acts.refl s).stackRead16 _).setIy _).done rfl
  | ldpAtHlHl | ldpAtIxHl | ldpAtIyHl | ldpAtMnHl _ | ldpAtMnIx _ | ldpAtMnIy _ =>
    exact ((Acts.refl s).ldpWrite _ _).done rfl
  | ldpHlAtHl | ldpHlAtIx | ldpHlAtIy | ldpHlAtMn _ => exact (((Acts.refl s).ldpRead _).onMain _).done rfl
  | ldpIxAtMn _ => exact (((Acts.refl s).ldpRead _).setIx _).done rfl
  | ldpIyAtMn _ => exact (((Acts.refl s).ldpRead _).setIy _).done rfl
  | ldEirA =>
    exact .write (u := s) (c := { s.cpu with eir := s.a }) (.refl s)
      { CpuStep.of_control (d := s.cpu) rfl rfl rfl rfl rfl with eir := fun _ => rfl } rfl
  | ldIirA =>
    exact .write (u := s) (c := { s.cpu with iir := s.a }) (.refl s)
      { CpuStep.of_control (d := s.cpu) rfl rfl rfl rfl rfl with iir := fun _ => rfl } rfl
  | ldXpcA => exact .write (u := s) (.refl s) (.xpcPc s.a s.cpu.pc (.inl rfl)) rfl
  | ldSpHl | ldSpIx | ldSpIy => exact ((Acts.refl s).setSp _).doneHeld rfl
  | ldDdaBc _ | ldDdaDe _ | exDeaHla => exact ((Acts.refl s).onAlt _).done rfl
  | exAtSpHl => exact ((((Acts.refl s).stackRead16 _).stackWrite16 _ _).onDst _).done rfl
  | exAtSpIx => exact ((((Acts.refl s).stackRead16 _).stackWrite16 _ _).setIx _).done rfl
  | exAtSpIy => exact ((((Acts.refl s).stackRead16 _).stackWrite16 _ _).setIy _).done rfl
  | exAfAfa | exDeHla | exx => exact (((Acts.refl s).onMain _).onAlt _).done rfl
  | exDeaHl =>
    change Ends _ s (if s.cpu.altd then _ else _)
    split
    · exact ((Acts.refl s).onAlt _).done rfl
    · exact (((Acts.refl s).onMain _).onAlt _).done rfl
  | exDeHl =>
    change Ends _ s (if s.cpu.altd then _ else _)
    split
    · exact (((Acts.refl s).onMain _).onAlt _).done rfl
    · exact ((Acts.refl s).onMain _).done rfl
  | popIp => exact .unlessPriorityRefused (.setIp ((Acts.refl s).pop8) _ (by decide) rfl) (by decide)
  | popIx => exact (((Acts.refl s).pop16).setIx _).done rfl
  | popIy => exact (((Acts.refl s).pop16).setIy _).done rfl
  | popZz _ => exact (((Acts.refl s).pop16).onDst _).done rfl
  | pushIp => exact ((Acts.refl s).push8 _).done rfl
  | pushSu => exact ((Acts.refl s).push8 _).doneHeld rfl
  | pushIx | pushIy | pushZz _ => exact ((Acts.refl s).push16 _).done rfl
  | mul => exact ((Acts.refl s).onMain _).done rfl
  | rdmode => exact ((Acts.refl s).onMain _).doneHeld rfl
  | adcAAtHl | adcAAtIxD _ | adcAAtIyD _ | addAAtHl | addAAtIxD _ | addAAtIyD _ | andAtHl | andAtIxD _ | andAtIyD _
    | cpAtHl | cpAtIxD _ | cpAtIyD _ | orAtHl | orAtIxD _ | orAtIyD _ | sbcAAtHl | sbcAAtIxD _ | sbcAAtIyD _
    | subAtHl | subAtIxD _ | subAtIyD _ | xorAtHl | xorAtIxD _ | xorAtIyD _ => exact .aluAt _ _ rfl
  | decAtHl | decAtIxD _ | decAtIyD _ => exact .decAt _ rfl
  | incAtHl | incAtIxD _ | incAtIyD _ => exact .incAt _ rfl
  | rlAtHl | rlAtIxD _ | rlAtIyD _ | rlcAtHl | rlcAtIxD _ | rlcAtIyD _ | rrAtHl | rrAtIxD _ | rrAtIyD _ | rrcAtHl
    | rrcAtIxD _ | rrcAtIyD _ | slaAtHl | slaAtIxD _ | slaAtIyD _ | sraAtHl | sraAtIxD _ | sraAtIyD _ | srlAtHl
    | srlAtIxD _ | srlAtIyD _ => exact .shiftAt _ _ rfl
  | resBAtHl _ | resBAtIxD _ _ | resBAtIyD _ _ => exact .modify (s := s) _ (fun v => (v &&& ~~~bitMask _, id)) rfl
  | setBAtHl _ | setBAtIxD _ _ | setBAtIyD _ _ => exact .modify (s := s) _ (fun v => (v ||| bitMask _, id)) rfl
  | bitBAtHl _ => exact (((Acts.refl s).load8 _).onDst _).doneHeld rfl
  | bitBAtIxD _ _ | bitBAtIyD _ _ => exact (((Acts.refl s).load8 _).onDst _).done rfl
  | altd => exact .latch (c := { s.cpu with altd := true }) (.of_control rfl rfl rfl rfl rfl) rfl
  | ioi => exact .latch (c := { s.cpu with iospace := .internal }) (.of_control rfl rfl rfl rfl rfl) rfl
  | ioe => exact .latch (c := { s.cpu with iospace := .external }) (.of_control rfl rfl rfl rfl rfl) rfl
  | ldd => exact (Acts.blockOut .down .down).done rfl
  | ldi => exact (Acts.blockOut .up .up).done rfl
  | lddr | ldir | lddsr | ldisr => exact (Acts.blockOut _ _).repeats rfl
  | lsdr | lsir | lsddr | lsidr => exact Goes.repeats (Acts.blockIn _ _) rfl
  | callMn _ => exact (((Acts.refl s).push16 _).setPc _).done rfl
  | djnzE _ => exact (Acts.ite ((Acts.refl s).onDst _) (((Acts.refl s).onDst _).setPc _)).done rfl
  | jpAtHl | jpAtIx | jpAtIy | jpMn _ | jrE _ => exact ((Acts.refl s).setPc _).done rfl
  | jpFMn _ _ | jrCcE _ _ => exact (Acts.ite ((Acts.refl s).setPc _) (Acts.refl s)).done rfl
  | lcallXMn x mn =>
    exact .write (u := s.pushXpcPc) (((Acts.refl s).push8 _).push16 _) (.xpcPc x mn (.inr (.inr (.inr ⟨x, mn, rfl⟩)))) rfl
  | ljpXMn x mn => exact .write (u := s) (.refl s) (.xpcPc x mn (.inr (.inr (.inl ⟨x, mn, rfl⟩)))) rfl
  | lret => exact .write (u := s.popPc.pop8.2) (((Acts.refl s).popPc).pop8) (.xpcPc _ _ (.inr (.inl rfl))) rfl
  | ret => exact ((Acts.refl s).popPc).done rfl
  | retF _ => exact (Acts.ite ((Acts.refl s).popPc) (Acts.refl s)).done rfl
  | reti => exact .unlessPriorityRefused ((((Acts.refl s).pop8).setIp _ (by decide)).popPc.doneHeld rfl) (by decide)
  | rstV v =>
    change Ends _ s (State.done (if _ then _ else _))
    split
    · exact (Acts.refl s).done rfl
    · exact .trap _ (.inr ⟨v, rfl⟩) (.inr ⟨v, rfl⟩) rfl
  | syscall => exact .trap _ (.inl (by decide)) (.inl (by decide)) rfl
  | ipset0 | ipset1 | ipset2 | ipres => exact .setIp (.refl s) _ (by decide) rfl
  | ipset3 => exact .unlessPriorityRefused (.setIp (.refl s) _ (by decide) rfl) (by decide)
  | nop => exact (Acts.refl s).done rfl
  | uma | ums => exact ((((Acts.refl s).umRead).memWrite _ _).umEnd _).done rfl
  | setusr =>
    exact .write (u := s) (c := { s.cpu with su := pushField s.cpu.su 1 }) (.refl s)
      { CpuStep.of_control (d := s.cpu) rfl rfl rfl rfl rfl with
        su := fun _ => .inl (by decide)
        leave := fun _ h => absurd (pushField_one_bit0 s.cpu.su) (by rw [h]; decide) } rfl
  | sures =>
    exact .unlessPriorityRefused (.setSu (.refl s) _ (by decide) rfl) (by decide)
  | popSu =>
    exact .unlessPriorityRefused (.setSu (Acts.refl s).pop8 _ (by decide) rfl) (by decide)
  | idet =>
    change Ends _ s (if s.cpu.altd then _ else if s.userMode then _ else _)
    split
    · exact ((Acts.refl s).onAlt _).done rfl
    · split
      · exact (Act.request s _).acts.done rfl
      · exact (Acts.refl s).done rfl

/-! What every instruction keeps -/

theorem Act.cpuStep {i : Instr} {s t : State} (h : Act i s t) : CpuStep i s.cpu t.cpu := by
  cases h with
  | read x pa => rw [State.physRead_cpu]; exact .of_control rfl rfl rfl rfl rfl
  | write | ioRead | extRead | ioWrite | extWrite | time | request => exact .of_control rfl rfl rfl rfl rfl
  | regs h => exact h

theorem Acts.cpuStep {i : Instr} {s t : State} (h : Acts i s t) : CpuStep i s.cpu t.cpu := by
  induction h with
  | refl => exact .of_control rfl rfl rfl rfl rfl
  | tail _ hstep ih => exact ih.trans hstep.cpuStep

/-- What an instruction that completes has done: its accesses, then its last registers. -/
theorem acts_of_exec {i : Instr} {s t : State} (h : exec i s = .next t) : ∃ u c, Acts i s u ∧ CpuStep i u.cpu c ∧
    t = { u with cpu := c } ∧ (isPrefix i = false → c.altd = false ∧ c.iospace = .memory ∧ c.defer = privileged i) := by
  have he := exec_ends i s
  rw [h] at he
  exact he

/-- Settles O50: the end of the instruction is `Cpu.retire`. -/
theorem latchesConsumed : Obligations.LatchesConsumed := by
  intro s t i hi h
  obtain ⟨u, c, -, -, rfl, hc⟩ := acts_of_exec h
  exact hc hi

/-- Settles O51: no access and no register change writes a control register it is not named for. -/
theorem controlRegisterWriters : Obligations.ControlRegisterWriters := by
  intro s t i h
  obtain ⟨u, c, hu, hc, rfl, -⟩ := acts_of_exec h
  have hstep := hu.cpuStep.trans hc
  exact ⟨hstep.ip, hstep.su, hstep.xpc, hstep.iir, hstep.eir, hstep.leave⟩

theorem unlessPriorityRefused_of_refuse {s : State} (hp : s.cfg.userIpset3 = .refuse) (hu : s.userMode = true) (n : String)
    (r : Result) : s.unlessPriorityRefused n r = .refused (.userPriority n) := by
  simp [State.unlessPriorityRefused, State.priorityRefused, hp, hu]

/-- Settles O30: the five refuse by `State.unlessPriorityRefused`, and nothing else gives that refusal. -/
theorem priorityRefusals : Obligations.PriorityRefusals := by
  intro s hp hu
  have hr := unlessPriorityRefused_of_refuse hp hu
  refine ⟨hr _ _, hr _ _, hr _ _, hr _ _, hr _ _, fun i m h => ?_⟩
  have he := exec_ends i s
  rw [h] at he
  exact he m rfl

/-! User mode -/

/-- What an instruction in User mode has kept so far: the mode, the parameters, and the registers it may not reach. -/
structure Confined (s t : State) : Prop where
  user : t.userMode = true
  cfg : t.cfg = s.cfg
  dev : t.dev.secured = s.dev.secured
  quiet : s.dev.user.uer = Vector.replicate 22 0 → s.dev.inside = 0 → Quiet s.dev t.dev

theorem userMode_congr {s t : State} (hcfg : t.cfg = s.cfg) (hsu : t.cpu.su = s.cpu.su) (hdev : t.dev.secured = s.dev.secured) :
    t.userMode = s.userMode := by
  simp only [Dev.secured, Prod.mk.injEq] at hdev
  obtain ⟨-, huser, -, -⟩ := hdev
  simp [State.userMode, Dev.edmf, hcfg, hsu, huser]

/-- The parameters and the mode bits stay, and of the devices what User mode may not reach. -/
theorem Act.confined {i : Instr} {s t : State} (h : Act i s t) (hu : s.userMode = true) : Confined s t := by
  have hkeep : ∀ {u : State}, u.cfg = s.cfg → u.cpu.su = s.cpu.su → u.dev.secured = s.dev.secured →
      (s.dev.user.uer = Vector.replicate 22 0 → s.dev.inside = 0 → Quiet s.dev u.dev) → Confined s u :=
    fun hcfg hsu hdev hq => ⟨(userMode_congr hcfg hsu hdev).trans hu, hcfg, hdev, hq⟩
  cases h with
  | read x pa =>
    rcases s.physRead_spec x pa with h | h <;> rw [h]
    · exact hkeep rfl rfl rfl fun _ _ => .refl _
    · exact hkeep rfl rfl rfl fun _ _ => rfl
  | write x pa v =>
    refine hkeep rfl rfl ?_ fun _ _ => ?_ <;> rw [State.physWrite_dev] <;> split <;> rfl
  | ioRead a =>
    rw [hu]
    exact hkeep rfl rfl (secured_ioReadInternal _ _ _) fun hd _ => ioReadInternal_quiet hd a
  | extRead a =>
    rw [hu]
    exact hkeep rfl rfl (secured_ioReadExternal _ _ _ _) fun hd _ => ioReadExternal_quiet hd a
  | ioWrite a v h =>
    rw [hu] at h
    exact hkeep rfl rfl (secured_ioWriteInternal h) fun hd _ => ioWriteInternal_quiet hd h
  | extWrite a v =>
    rw [hu]
    exact hkeep rfl rfl (secured_ioWriteExternal _ _ _ _ _) fun hd _ => ioWriteExternal_quiet hd a v
  | time =>
    refine hkeep rfl rfl (secured_perclkTicks _ _ _) fun _ hin => ?_
    rw [hin]
    exact congrArg (fun n => { s.dev with inside := n }) hin.symm
  | request x => exact hkeep rfl rfl rfl fun _ _ => rfl
  | regs h hsu hxpc => exact hkeep rfl hsu rfl fun _ _ => .refl _

theorem Acts.confined {i : Instr} {s t : State} (h : Acts i s t) (hu : s.userMode = true) : Confined s t := by
  induction h with
  | refl => exact ⟨hu, rfl, rfl, fun _ _ => .refl _⟩
  | tail _ hstep ih =>
    have hnext := hstep.confined ih.user
    refine ⟨hnext.user, hnext.cfg.trans ih.cfg, hnext.dev.trans ih.dev, fun hd hin => ?_⟩
    have hq := ih.quiet hd hin
    exact hq.trans (hnext.quiet (by rw [hq.user]; exact hd) (by rw [hq.inside]; exact hin))

/-- Settles O44: access by access, then the last registers, which are no devices. -/
theorem userModeConfined : Obligations.UserModeConfined := by
  intro s t i hu h
  obtain ⟨u, c, hacts, -, rfl, -⟩ := acts_of_exec h
  have hc := hacts.confined hu
  have hdev := hc.dev
  simp only [Dev.secured, Prod.mk.injEq] at hdev
  obtain ⟨hmmu, huser, hsys, hwdt⟩ := hdev
  exact ⟨⟨hmmu, huser, hsys, hwdt, hc.cfg⟩, hc.quiet⟩

/-! The invariant -/

/-- What every part of a step keeps: the parameters, the invariant, and that no reset falls inside the instruction. -/
structure Keeps (s t : State) : Prop where
  cfg : t.cfg = s.cfg
  inv : MachineInv s → MachineInv t
  whole : s.writesLeft = none → t.writesLeft = none

theorem Keeps.refl (s : State) : Keeps s s := ⟨rfl, id, id⟩

theorem Keeps.trans {s t u : State} (h : Keeps s t) (k : Keeps t u) : Keeps s u :=
  ⟨k.cfg.trans h.cfg, k.inv ∘ h.inv, k.whole ∘ h.whole⟩

theorem DataStep.keeps {s t : State} (h : DataStep s t) : Keeps s t := ⟨h.cfg, h.inv, h.whole⟩

/-- The CPU and the plans of the outside world are no part of the invariant. -/
theorem Keeps.withCpu (s : State) (c : Cpu) : Keeps s { s with cpu := c } := ⟨rfl, fun h => ⟨h.memory, h.dev⟩, id⟩

theorem Keeps.withInbox (s : State) (l : List (Nat × HostEvent)) : Keeps s { s with inbox := l } :=
  ⟨rfl, fun h => ⟨h.memory, h.dev⟩, id⟩

theorem Keeps.withDev (s : State) {d : Dev} (h : d.kept = s.dev.kept) : Keeps s { s with dev := d } :=
  (DataStep.withDev s h).keeps

/-- The boot ROM's state replaced by one with no whole triplet waiting. -/
theorem Keeps.withBoot (s : State) (b : Boot) (h : b.bytes.length ≤ 2) : Keeps s { s with dev := { s.dev with boot := b } } :=
  (DataStep.withBoot s (d := { s.dev with boot := b }) rfl fun _ => h).keeps

theorem Act.keeps {i : Instr} {s t : State} (h : Act i s t) : Keeps s t := by
  cases h with
  | read x pa => exact (s.physRead_data x pa).keeps
  | write x pa v => exact (s.physWrite_data x pa v).keeps
  | ioRead a => exact .withDev s (kept_ioReadInternal _ _ _ _)
  | extRead a => exact .withDev s (kept_ioReadExternal _ _ _ _)
  | ioWrite a v h =>
    exact ⟨rfl, fun hi => ⟨hi.memory, hi.dev.ioWriteInternal h⟩, State.oneWriteLess_of_none⟩
  | extWrite a v =>
    exact ⟨rfl, fun hi => ⟨hi.memory, hi.dev.of_kept (kept_ioWriteExternal _ _ _ _ _)⟩, State.oneWriteLess_of_none⟩
  | time => exact .withDev s (kept_perclkTicks _ _ _)
  | request => exact .withDev s rfl
  | regs => exact .withCpu s _

theorem Acts.keeps {i : Instr} {s t : State} (h : Acts i s t) : Keeps s t := by
  induction h with
  | refl => exact .refl s
  | tail _ hstep ih => exact ih.trans hstep.keeps

theorem exec_keeps {i : Instr} {s t : State} (h : exec i s = .next t) : Keeps s t := by
  obtain ⟨u, c, hacts, -, rfl, -⟩ := acts_of_exec h
  exact hacts.keeps.trans (.withCpu u c)

theorem runInstr_keeps {s t : State} (h : s.runInstr = .next t) : Keeps s t := by
  unfold State.runInstr at h
  split at h
  · rename_i i n u hf
    exact (State.fetchInstr_data hf).1.keeps.trans ((Keeps.withCpu u (u.advance n).cpu).trans (exec_keeps h))
  · cases h

theorem kept_acknowledge (d : Dev) (src : IntSource) : (acknowledge d src).kept = d.kept := by cases src <;> rfl

theorem enter_keeps (s : State) (lost : Bool) (v : Word) : Keeps s (s.enter lost v) := by
  obtain ⟨-, hcfg, -, hwhole, hinv, -⟩ := s.enter_data lost v
  exact ⟨hcfg, hinv, hwhole⟩

theorem interrupt_keeps (s : State) (src : IntSource) (p : BitVec 2) (v : Word) : Keeps s (s.interrupt src p v) :=
  (s.physRead_data _ _).keeps.trans <| (Keeps.withDev _ (kept_acknowledge _ src)).trans <|
    (enter_keeps _ _ v).trans (.withCpu _ _)

theorem takeInterrupt_keeps {s t : State} {src : IntSource} (h : s.takeInterrupt src = .next t) : Keeps s t := by
  unfold State.takeInterrupt at h
  split at h
  · injection h with h; exact h ▸ interrupt_keeps s src _ _
  · cases h

/-- The count of free values and the boot ROM's state are all that the hand-over changes of the devices. -/
theorem bootExit_keeps (s : State) : Keeps s s.bootExit :=
  (DataStep.withBoot s (d := s.bootExit.dev) rfl fun _ => Nat.zero_le 2).keeps.trans (.withCpu _ _)

theorem cpuStep_keeps {s t : State} (h : s.cpuStep = .next t) : Keeps s t := by
  unfold State.cpuStep at h
  split at h
  · rcases State.bootStep_next h with rfl | hd
    · exact bootExit_keeps s
    · exact hd.keeps
  · split at h
    · split at h
      · exact takeInterrupt_keeps h
      · split at h
        · injection h with h; exact h ▸ .withBoot s ⟨true, s.dev.smode, []⟩ (Nat.zero_le 2)
        · exact runInstr_keeps h
    · exact runInstr_keeps h

/-! The events -/

theorem warmReset_keeps (s : State) (cause : BitVec 2) (period : BitVec 17) : Keeps s (s.warmReset cause period) :=
  ⟨rfl, fun h => ⟨h.memory, (DevInv.atReset s.cfg.rev s.dev.fill cause period s.dev).of_kept rfl⟩, id⟩

theorem tick32k_keeps (s : State) : Keeps s s.tick32k := by
  unfold State.tick32k
  split
  · exact (Keeps.withDev s (kept_clk32Tick s.dev)).trans (warmReset_keeps _ _ _)
  · exact .withDev s (kept_clk32Tick s.dev)

theorem ticks32k_keeps (n : Nat) (s : State) : Keeps s (State.ticks32k n s) := by
  induction n generalizing s with
  | zero => exact .refl s
  | succ n ih => exact (tick32k_keeps s).trans (ih _)

theorem testClocked_keeps (s : State) : Keeps s s.testClocked := by
  unfold State.testClocked
  split
  · split
    · exact (Keeps.withDev s (Dev.kept_draw s.dev)).trans (warmReset_keeps _ _ _)
    · exact .withDev s (Dev.kept_draw s.dev)
  · exact .refl s

/-- A step that a reset cuts begins with a count of writes and ends without one. -/
theorem cpuStepCut_keeps {s t : State} {k : Nat} (h : s.cpuStepCut k = .next t) :
    t.cfg = s.cfg ∧ (MachineInv s → MachineInv t) ∧ t.writesLeft = none := by
  obtain ⟨u, hu, rfl⟩ := State.cpuStepCut_next h
  have hk := cpuStep_keeps hu
  refine ⟨hk.cfg, fun hi => ?_, rfl⟩
  have hi' := hk.inv ⟨hi.memory, hi.dev⟩
  exact ⟨hi'.memory, hi'.dev⟩

theorem resetInside_keeps {s t : State} {k : Nat} (h : s.resetInside k = .next t) : Keeps s t := by
  obtain ⟨u, hu, rfl⟩ := State.resetInside_next h
  obtain ⟨hcfg, hinv, hleft⟩ := cpuStepCut_keeps hu
  exact Keeps.trans ⟨hcfg, hinv, fun _ => hleft⟩ (warmReset_keeps u _ _)

theorem clk32kInside_keeps {s t : State} {k : Nat} (h : s.clk32kInside k = .next t) : Keeps s t := by
  rcases State.clk32kInside_next h with ⟨u, hu, -, rfl⟩ | ⟨u, hu, rfl⟩
  · obtain ⟨hcfg, hinv, hleft⟩ := cpuStepCut_keeps hu
    exact Keeps.trans ⟨hcfg, hinv, fun _ => hleft⟩ (tick32k_keeps u)
  · exact (cpuStep_keeps hu).trans ((tick32k_keeps u).trans (testClocked_keeps _))

theorem onDev_keeps (s : State) {d : Dev} (h : d.kept = s.dev.kept) : Keeps s (s.onDev d) :=
  .withDev s ((kept_catchEdges _ _ _).trans h)

theorem slaveAccess_keeps (s : State) {d : Dev} (h : d.kept = s.dev.kept) : Keeps s (s.slaveAccess d) := by
  unfold State.slaveAccess
  split
  · exact .withDev s h
  · exact .refl s

theorem charArrives_keeps {s t : State} {p : SerialId} {v : Byte} {n : Bool} (h : s.charArrives p v n = .next t) :
    Keeps s t := by
  unfold State.charArrives at h
  split at h
  · exact (State.bootByte_data h).keeps
  · injection h with h; exact h ▸ onDev_keeps s ((kept_serialEvents s.cfg s.dev p).1 v n)

theorem burstArrives_keeps {s t : State} {p : SerialId} {v : Byte} (h : s.burstArrives p v = .next t) : Keeps s t := by
  obtain ⟨-, -, -, -, hburst, -⟩ := kept_serialEvents s.cfg s.dev p
  unfold State.burstArrives at h
  split at h
  · exact (State.bootByte_data h).keeps
  · injection h with h; exact h ▸ onDev_keeps s (hburst v)

/-- The events that may be refused or reset the machine, each by its lemma; the others change devices the invariant does not
speak of. -/
theorem deliver_keeps {s t : State} {e : HostEvent} (h : s.deliver e = .next t) : Keeps s t := by
  cases e with
  | perclk n =>
    injection h with h
    exact h ▸ (Keeps.withDev s (kept_perclkTicks s.cfg n s.dev)).trans (testClocked_keeps _)
  | clk32k n => injection h with h; exact h ▸ (ticks32k_keeps n s).trans (testClocked_keeps _)
  | perclkInside n => injection h with h; exact h ▸ .withDev s rfl
  | clk32kInside k => exact clk32kInside_keeps h
  | pins p v => injection h with h; exact h ▸ onDev_keeps s rfl
  | smode v => injection h with h; exact h ▸ .withDev s rfl
  | reset => injection h with h; exact h ▸ warmReset_keeps s _ _
  | resetInside k => exact resetInside_keeps h
  | extAnswer vs => injection h with h; exact h ▸ .withDev s rfl
  | serialChar p v ninth => exact charArrives_keeps h
  | serialBurst p v => exact burstArrives_keeps h
  | masterRead a => injection h with h; exact h ▸ slaveAccess_keeps s rfl
  | masterWrite a v => injection h with h; exact h ▸ slaveAccess_keeps s rfl
  | serialStart p | serialBreakEnd p | serialTxDone p | serialBurstStart p | serialClock p _ | hdlcByte p _ _ _ _
      | hdlcFlag p =>
    obtain ⟨-, hstart, hbreak, hdone, -, hclock, hburst, hbyte, hflag⟩ := kept_serialEvents s.cfg s.dev p
    injection h with h
    subst h
    refine onDev_keeps s ?_
    simp only [hstart, hbreak, hdone, hclock, hburst, hbyte, hflag]

/-- A step is an event that is due, or a step of the CPU. -/
theorem step_keeps {s t : State} (h : step s = .next t) : Keeps s t := by
  unfold step at h
  split at h
  · exact (Keeps.withInbox s _).trans (deliver_keeps h)
  · exact (Keeps.withInbox s _).trans (cpuStep_keeps h)

/-- Settles O54: every part of a step keeps the invariant. -/
theorem stepKeepsInvariant : Obligations.StepKeepsInvariant := by
  intro s t hinv h
  have hk := step_keeps h
  exact ⟨hk.inv hinv, hk.cfg, hk.whole⟩

/-- Settles O53: the base case, by the laws of memory and of reset. -/
theorem resetMeetsInvariant : Obligations.ResetMeetsInvariant := ⟨reset_memory_wf, DevInv.atReset _ _ _ _ _⟩

end Sys2Proof.Machine
end

section
/-! What the instructions that reach no memory and no device leave: a value in its destination, and flags. -/
namespace Sys2Proof.Machine

/-! The destination forms -/

section
variable {i : Instr} {s : State} {k : RegSet → RegSet} {g : Byte → Byte} {w : Word}

/-- A result in the destination set. -/
theorem completesCpu_dst (h : exec i s = (s.onDst k).done) (hp : privileged i = false) :
    CompletesCpu i s (dstCpu s.cpu k) := by
  show exec i s = _
  rw [h, hp, State.onDst_state]
  rfl

/-- The same of a privileged instruction. -/
theorem completesCpu_dstHeld (h : exec i s = (s.onDst k).doneHeld) (hp : privileged i = true) :
    CompletesCpu i s (dstCpu s.cpu k) := by
  show exec i s = _
  rw [h, hp, State.onDst_state]
  rfl

/-- A result in the destination set, with its flags. -/
theorem completesCpu_dstFlags (h : exec i s = ((s.onDst k).onFlags g).done) (hp : privileged i = false)
    (hk : ∀ x, (k x).f = x.f) : CompletesCpu i s (dstCpuF s.cpu k (g (dstF s.cpu))) := by
  show exec i s = _
  rw [h, hp, State.onDst_onFlags s k g hk]
  rfl

/-- Flags alone. -/
theorem completesCpu_flags (h : exec i s = (s.onFlags g).done) (hp : privileged i = false) :
    CompletesCpu i s (dstCpuF s.cpu id (g (dstF s.cpu))) := by
  show exec i s = _
  rw [h, hp, State.onFlags_state]
  rfl

/-- F of the destination set is apart from the registers without an alternate. -/
theorem dstCpuF_ix (c : Cpu) (w : Word) (f : Byte) : dstCpuF { c with ix := w } id f = { dstCpuF c id f with ix := w } := by
  obtain ⟨_, _, _, _, _, _, _, _, _, _, _, _ | _, _⟩ := c <;> rfl

theorem dstCpuF_iy (c : Cpu) (w : Word) (f : Byte) : dstCpuF { c with iy := w } id f = { dstCpuF c id f with iy := w } := by
  obtain ⟨_, _, _, _, _, _, _, _, _, _, _, _ | _, _⟩ := c <;> rfl

theorem dstCpuF_sp (c : Cpu) (w : Word) (f : Byte) : dstCpuF { c with sp := w } id f = { dstCpuF c id f with sp := w } := by
  obtain ⟨_, _, _, _, _, _, _, _, _, _, _, _ | _, _⟩ := c <;> rfl

/-- A result in IX, with its flags. -/
theorem completesCpu_ix (h : exec i s = s.ixResult w g) (hp : privileged i = false) :
    CompletesCpu i s { dstCpuF s.cpu id (g (dstF s.cpu)) with ix := w } := by
  show exec i s = _
  rw [h, hp, ← dstCpuF_ix]
  exact congrArg State.done (State.onFlags_state { s with cpu := { s.cpu with ix := w } } g)

/-- A result in IY, with its flags. -/
theorem completesCpu_iy (h : exec i s = s.iyResult w g) (hp : privileged i = false) :
    CompletesCpu i s { dstCpuF s.cpu id (g (dstF s.cpu)) with iy := w } := by
  show exec i s = _
  rw [h, hp, ← dstCpuF_iy]
  exact congrArg State.done (State.onFlags_state { s with cpu := { s.cpu with iy := w } } g)

/-- A result in SP, with its flags. -/
theorem completesCpu_sp (h : exec i s = ((s.setSp w).onFlags g).done) (hp : privileged i = false) :
    CompletesCpu i s { dstCpuF s.cpu id (g (dstF s.cpu)) with sp := w } := by
  show exec i s = _
  rw [h, hp, ← dstCpuF_sp, State.onFlags_state]
  rfl

end

/-- A word in `dd`, as `WordDst.write` says it. -/
theorem State.setDstSs_state (s : State) (ss : SS) (w : Word) :
    s.setDstSs ss w = { s with cpu := WordDst.write s.cpu w (.ss ss) } := by
  cases ss with
  | bc | de | hl => exact State.onDst_state s _
  | sp => rfl

theorem completesCpu_ss {i : Instr} {s : State} {ss : SS} {w : Word} (h : exec i s = (s.setDstSs ss w).done)
    (hp : privileged i = false) : CompletesCpu i s (WordDst.write s.cpu w (.ss ss)) := by
  show exec i s = _
  rw [h, hp, State.setDstSs_state]
  rfl

/-! Loads, moves, exchanges -/

/-- Settles O1: each is its destination form. -/
theorem registerLoadsComplete : Obligations.RegisterLoadsComplete := by
  intro s
  exact ⟨fun _ => rfl, fun _ => rfl, fun _ _ => completesCpu_ss rfl rfl, fun _ _ => completesCpu_dst rfl rfl,
    fun _ _ => completesCpu_dst rfl rfl, completesCpu_ss (ss := .hl) rfl rfl, completesCpu_ss (ss := .hl) rfl rfl, rfl, rfl,
    rfl, rfl, rfl, fun _ => rfl, fun _ => rfl⟩

/-- Settles O7. -/
theorem specialMovesComplete : Obligations.SpecialMovesComplete := by
  intro s
  refine ⟨fun i v h => ?_, completesCpu_dstHeld rfl rfl, rfl, rfl, rfl⟩
  rcases h with ⟨rfl, rfl⟩ | ⟨rfl, rfl⟩ <;> exact ⟨_, putSZ_flagsAre _ _ _, completesCpu_dstFlags rfl rfl fun _ => rfl⟩

/-- Settles O8: a pair moved as a word is its two bytes moved. -/
theorem exchangesComplete : Obligations.ExchangesComplete := by
  intro s
  have haf : CompletesCpu .exAfAfa s { s.cpu with
      main := s.cpu.main.setAf s.cpu.alt.af, alt := s.cpu.alt.setAf s.cpu.main.af } := rfl
  have hxx : CompletesCpu .exx s { s.cpu with
      main := ((s.cpu.main.setBc s.cpu.alt.bc).setDe s.cpu.alt.de).setHl s.cpu.alt.hl
      alt := ((s.cpu.alt.setBc s.cpu.main.bc).setDe s.cpu.main.de).setHl s.cpu.main.hl } := rfl
  have hde : s.cpu.altd = false → CompletesCpu .exDeHl s { s.cpu with
      main := (s.cpu.main.setDe s.cpu.main.hl).setHl s.cpu.main.de } := fun h => by
    show (if s.cpu.altd then _ else _) = _
    rw [h]; rfl
  have hdea : s.cpu.altd = true → CompletesCpu .exDeHl s { s.cpu with
      main := s.cpu.main.setDe s.cpu.alt.hl, alt := s.cpu.alt.setHl s.cpu.main.de } := fun h => by
    show (if s.cpu.altd then _ else _) = _
    rw [if_pos h]; rfl
  have hdehla : CompletesCpu .exDeHla s { s.cpu with
      main := s.cpu.main.setDe s.cpu.alt.hl, alt := s.cpu.alt.setHl s.cpu.main.de } := rfl
  have hdahl : s.cpu.altd = false → CompletesCpu .exDeaHl s { s.cpu with
      main := s.cpu.main.setHl s.cpu.alt.de, alt := s.cpu.alt.setDe s.cpu.main.hl } := fun h => by
    show (if s.cpu.altd then _ else _) = _
    rw [h]; rfl
  have hdaha : s.cpu.altd = true → CompletesCpu .exDeaHl s { s.cpu with
      alt := (s.cpu.alt.setDe s.cpu.alt.hl).setHl s.cpu.alt.de } := fun h => by
    show (if s.cpu.altd then _ else _) = _
    rw [if_pos h]; rfl
  have hdahla : CompletesCpu .exDeaHla s { s.cpu with
      alt := (s.cpu.alt.setDe s.cpu.alt.hl).setHl s.cpu.alt.de } := rfl
  simp only [RegSet.setAf, RegSet.setBc, RegSet.setDe, RegSet.setHl, RegSet.af, RegSet.bc, RegSet.de, RegSet.hl,
    hiByte_word, loByte_word] at haf hxx hde hdea hdehla hdahl hdaha hdahla
  exact ⟨haf, hxx, hde, hdea, hdehla, hdahl, hdaha, hdahla⟩

/-! 16-bit arithmetic -/

/-- A 16-bit sum without a carry in, and its carry out. -/
theorem addFlags_word (x y : Word) : (addFlags x y false).1 = BitVec.ofNat 16 (x.toNat + y.toNat) ∧
    (addFlags x y false).2.c = decide (65535 < x.toNat + y.toNat) :=
  ⟨addFlags_sum16 x y false, decide_eq_decide.2 Nat.succ_le_iff⟩

/-- Settles O12: the sum is `addFlags`, of which only C is written. -/
theorem wordAdditionsComplete : Obligations.WordAdditionsComplete := by
  intro s
  refine ⟨fun ss => ?hl, fun xx => ?ix, fun yy => ?iy, fun d => ?sp⟩
  case hl =>
    obtain ⟨hsum, hcarry⟩ := addFlags_word s.cpu.main.hl (s.ss ss)
    dsimp only
    rw [← hsum, ← hcarry]
    exact ⟨_, putC_flagsC _ _, completesCpu_dstFlags rfl rfl fun _ => rfl⟩
  case ix =>
    obtain ⟨hsum, hcarry⟩ := addFlags_word s.cpu.ix (s.xx xx)
    dsimp only
    rw [← hsum, ← hcarry]
    exact ⟨_, putC_flagsC _ _, completesCpu_ix rfl rfl⟩
  case iy =>
    obtain ⟨hsum, hcarry⟩ := addFlags_word s.cpu.iy (s.yy yy)
    dsimp only
    rw [← hsum, ← hcarry]
    exact ⟨_, putC_flagsC _ _, completesCpu_iy rfl rfl⟩
  case sp =>
    obtain ⟨hsum, hcarry⟩ := addFlags_word s.cpu.sp (spOffset s.cfg d)
    change ∃ g, FlagsC _ g (decide (65535 < s.cpu.sp.toNat + (spOffset s.cfg d).toNat)) ∧
      CompletesCpu _ s { dstCpuF s.cpu id g with sp := BitVec.ofNat 16 (s.cpu.sp.toNat + (spOffset s.cfg d).toNat) }
    rw [← hsum, ← hcarry]
    exact ⟨_, putC_flagsC _ _, completesCpu_sp rfl rfl⟩

/-- Settles O13: sum, difference, overflow and carry by the laws of `addFlags` and `subFlags`. -/
theorem wordCarryArithmeticComplete : Obligations.WordCarryArithmeticComplete := by
  intro s ss
  constructor
  · have hcarry : (addFlags s.cpu.main.hl (s.ss ss) (flagC s.cpu.main.f)).2.c =
        decide (65535 < s.cpu.main.hl.toNat + (s.ss ss).toNat + (flagC s.cpu.main.f).toNat) :=
      decide_eq_decide.2 Nat.succ_le_iff
    rw [← addFlags_sum16, ← hcarry, ← addFlags_overflow16]
    exact ⟨_, putFlags_flagsAre _ _, completesCpu_dstFlags rfl rfl fun _ => rfl⟩
  · rw [← subFlags_difference16, ← subFlags_overflow16]
    exact ⟨_, putFlags_flagsAre _ _, completesCpu_dstFlags rfl rfl fun _ => rfl⟩

/-- A page's single-byte words, followed by anything. -/
theorem wordLogic_decodes (rev : Rev) (ops : OpcodeMap) (rest : List Byte) : ∀ w ∈ ([([0xDC], .andHlDe),
    ([0xDD, 0xDC], .andIxDe), ([0xFD, 0xDC], .andIyDe), ([0xEC], .orHlDe), ([0xDD, 0xEC], .orIxDe), ([0xFD, 0xEC], .orIyDe),
    ([0xCC], .boolHl), ([0xDD, 0xCC], .boolIx), ([0xFD, 0xCC], .boolIy)] : List (List Byte × Instr)),
    decode rev ops (w.1 ++ rest) = .ok (w.2, rest) := by
  simp only [List.forall_mem_cons, List.not_mem_nil, false_imp_iff, implies_true, and_true, List.cons_append, List.nil_append]
  exact ⟨decode_main (by decide) rfl (Form.read_done _ _), decode_dd (by decide) rfl (Form.read_done _ _),
    decode_fd (by decide) rfl (Form.read_done _ _), decode_main (by decide) rfl (Form.read_done _ _),
    decode_dd (by decide) rfl (Form.read_done _ _), decode_fd (by decide) rfl (Form.read_done _ _),
    decode_main (by decide) rfl (Form.read_done _ _), decode_dd (by decide) rfl (Form.read_done _ _),
    decode_fd (by decide) rfl (Form.read_done _ _)⟩

/-- BOOL leaves 0 or 1, whose top four bits are 0. -/
theorem boolOf_lt (w : Word) : (boolOf w).toNat < 4096 := by
  unfold boolOf
  split <;> decide

/-- Settles O14: `logicFlags` and `boolFlags` by the value, then the encodings page by page. -/
theorem wordLogicComplete : Obligations.WordLogicComplete := by
  intro s
  have hlogic : ∀ (r : Word) (f : Byte), FlagsAre f (putFlags (logicFlags r) f) r.msb (decide (r = 0))
      (decide (4096 ≤ r.toNat)) false :=
    fun r f => topBits_word r ▸ putFlags_flagsAre (logicFlags r) f
  have hbool : ∀ (x : Word) (f : Byte), FlagsAre f (putFlags (boolFlags (boolOf x)) f) (boolOf x).msb (decide (boolOf x = 0))
      (decide (4096 ≤ (boolOf x).toNat)) false := fun x f => by
    rw [decide_eq_false (Nat.not_le.2 (boolOf_lt x))]
    exact putFlags_flagsAre (boolFlags (boolOf x)) f
  exact ⟨⟨_, hlogic _ _, completesCpu_dstFlags rfl rfl fun _ => rfl⟩, ⟨_, hlogic _ _, completesCpu_ix rfl rfl⟩,
    ⟨_, hlogic _ _, completesCpu_iy rfl rfl⟩, ⟨_, hlogic _ _, completesCpu_dstFlags rfl rfl fun _ => rfl⟩,
    ⟨_, hlogic _ _, completesCpu_ix rfl rfl⟩, ⟨_, hlogic _ _, completesCpu_iy rfl rfl⟩,
    ⟨_, hbool _ _, completesCpu_dstFlags rfl rfl fun _ => rfl⟩, ⟨_, hbool _ _, completesCpu_ix rfl rfl⟩,
    ⟨_, hbool _ _, completesCpu_iy rfl rfl⟩, wordLogic_decodes⟩

/-- The two halves of the product are the signed product: it fits. -/
theorem product_toInt (x y : Word) :
    ((product x y).extractLsb' 16 16 ++ (product x y).extractLsb' 0 16).toInt = x.toInt * y.toInt := by
  have hsplit : (product x y).extractLsb' 16 16 ++ (product x y).extractLsb' 0 16 = product x y := by
    apply BitVec.eq_of_toNat_eq
    have hlt := (product x y).isLt
    simp only [BitVec.toNat_append, BitVec.extractLsb'_toNat, Nat.shiftRight_eq_div_pow, Nat.shiftLeft_eq]
    rw [← Nat.shiftLeft_eq, ← Nat.shiftLeft_add_eq_or_of_lt (Nat.mod_lt _ (by decide)), Nat.shiftLeft_eq]
    omega
  have hlow : -(2 ^ 30) ≤ x.toInt * y.toInt := BitVec.le_toInt_mul_toInt
  have hhigh : x.toInt * y.toInt ≤ 2 ^ 30 := BitVec.toInt_mul_toInt_le
  rw [hsplit, product, BitVec.toInt_ofInt]
  exact Int.bmod_eq_of_le (by omega) (by omega)

/-- Settles O15: the counts modulo 2^16, and MUL by `product_toInt`. -/
theorem wordCountersAndMultiplyComplete : Obligations.WordCountersAndMultiplyComplete := by
  intro s
  have hup : ∀ x : Word, BitVec.ofNat 16 (x.toNat + 1) = x + 1 := fun x => by
    apply BitVec.eq_of_toNat_eq; simp
  have hdown : ∀ x : Word, BitVec.ofNat 16 (x.toNat + 65535) = x - 1 := fun x => by
    apply BitVec.eq_of_toNat_eq; simp; omega
  simp only [hup, hdown]
  exact ⟨rfl, rfl, rfl, rfl, fun _ => completesCpu_ss rfl rfl, fun _ => completesCpu_ss rfl rfl,
    _, _, product_toInt s.cpu.main.bc s.cpu.main.de, rfl⟩

/-! 16-bit rotates -/

/-- The value of two joined bit vectors. -/
theorem toNat_append_eq {m n : Nat} (x : BitVec m) (y : BitVec n) : (x ++ y).toNat = x.toNat * 2 ^ n + y.toNat := by
  rw [BitVec.toNat_append, ← Nat.shiftLeft_add_eq_or_of_lt y.isLt, Nat.shiftLeft_eq]

theorem toNat_bit1 (c : Bool) : (bit1 c).toNat = c.toNat := by cases c <;> rfl

theorem rl16_eq (x : Word) (c : Bool) :
    rl16 x c = (BitVec.ofNat 16 (2 * x.toNat + c.toNat), decide (32768 ≤ x.toNat)) := by
  refine Prod.ext (BitVec.eq_of_toNat_eq ((toNat_append_eq (x.extractLsb' 0 15) (bit1 c)).trans ?_)) (BitVec.msb_eq_decide x)
  have hx := x.isLt
  have hc : c.toNat ≤ 1 := c.toNat_le
  simp only [toNat_bit1, BitVec.extractLsb'_toNat, Nat.shiftRight_zero, BitVec.toNat_ofNat]
  omega

theorem rr16_eq (x : Word) (c : Bool) :
    rr16 x c = (BitVec.ofNat 16 (x.toNat / 2 + 32768 * c.toNat), decide (x.toNat % 2 = 1)) := by
  refine Prod.ext (BitVec.eq_of_toNat_eq ((toNat_append_eq (bit1 c) (x.extractLsb' 1 15)).trans ?_)) ?_
  · have hx := x.isLt
    have hc : c.toNat ≤ 1 := c.toNat_le
    simp only [toNat_bit1, BitVec.extractLsb'_toNat, Nat.shiftRight_eq_div_pow, BitVec.toNat_ofNat]
    omega
  · simp [rr16, bit, BitVec.getLsbD, Nat.testBit_zero]

theorem wordRotates_decode (rev : Rev) (ops : OpcodeMap) (rest : List Byte) : ∀ w ∈ ([([0xF3], .rlDe), ([0xFB], .rrDe),
    ([0xFC], .rrHl), ([0xDD, 0xFC], .rrIx), ([0xFD, 0xFC], .rrIy)] : List (List Byte × Instr)),
    decode rev ops (w.1 ++ rest) = .ok (w.2, rest) := by
  simp only [List.forall_mem_cons, List.not_mem_nil, false_imp_iff, implies_true, and_true, List.cons_append, List.nil_append]
  exact ⟨decode_main (by decide) rfl (Form.read_done _ _), decode_main (by decide) rfl (Form.read_done _ _),
    decode_main (by decide) rfl (Form.read_done _ _), decode_dd (by decide) rfl (Form.read_done _ _),
    decode_fd (by decide) rfl (Form.read_done _ _)⟩

/-- The flags of a rotated word, the logical check by its value. -/
theorem shiftFlags_word (r : Word) (c : Bool) (f : Byte) :
    FlagsAre f (putFlags (shiftFlags r c) f) r.msb (decide (r = 0)) (decide (4096 ≤ r.toNat)) c :=
  topBits_word r ▸ putFlags_flagsAre (shiftFlags r c) f

/-- Settles O16: `rl16` and `rr16` over the naturals, and the encodings. -/
theorem wordRotatesComplete : Obligations.WordRotatesComplete := by
  intro s
  have hl := fun x => Prod.mk.inj (rl16_eq x (flagC s.cpu.main.f))
  have hr := fun x => Prod.mk.inj (rr16_eq x (flagC s.cpu.main.f))
  refine ⟨?rlDe, ?rrDe, ?rrHl, ?rrIx, ?rrIy, wordRotates_decode⟩
  case rlDe =>
    dsimp only
    rw [← (hl _).1, ← (hl _).2]
    exact ⟨_, shiftFlags_word _ _ _, completesCpu_dstFlags rfl rfl fun _ => rfl⟩
  case rrDe | rrHl =>
    dsimp only
    rw [← (hr _).1, ← (hr _).2]
    exact ⟨_, shiftFlags_word _ _ _, completesCpu_dstFlags rfl rfl fun _ => rfl⟩
  case rrIx =>
    dsimp only
    rw [← (hr _).1, ← (hr _).2]
    exact ⟨_, shiftFlags_word _ _ _, completesCpu_ix rfl rfl⟩
  case rrIy =>
    dsimp only
    rw [← (hr _).1, ← (hr _).2]
    exact ⟨_, shiftFlags_word _ _ _, completesCpu_iy rfl rfl⟩

end Sys2Proof.Machine
end

section
/-! What the byte operations on registers, the flag, priority and mode instructions and the jumps leave. -/
namespace Sys2Proof.Machine

/-! Bytes shifted and counted -/

/-- The shifts as arithmetic: the result and the bit shifted out (`45_bit_shift.md` R433). -/
theorem shift8_eq (v : Byte) (c : Bool) :
    shift8 .rlc v c = (ByteOp.rlc.result v c, decide (128 ≤ v.toNat)) ∧
    shift8 .rl v c = (ByteOp.rl.result v c, decide (128 ≤ v.toNat)) ∧
    shift8 .sla v c = (ByteOp.sla.result v c, decide (128 ≤ v.toNat)) ∧
    shift8 .rrc v c = (ByteOp.rrc.result v c, decide (v.toNat % 2 = 1)) ∧
    shift8 .rr v c = (ByteOp.rr.result v c, decide (v.toNat % 2 = 1)) ∧
    shift8 .sra v c = (ByteOp.sra.result v c, decide (v.toNat % 2 = 1)) ∧
    shift8 .srl v c = (ByteOp.srl.result v c, decide (v.toNat % 2 = 1)) := by
  have hbits : ∀ (c : Bool) (v : Byte), shift8 .rlc v c = (ByteOp.rlc.result v c, decide (128 ≤ v.toNat)) ∧
      shift8 .rl v c = (ByteOp.rl.result v c, decide (128 ≤ v.toNat)) ∧
      shift8 .sla v c = (ByteOp.sla.result v c, decide (128 ≤ v.toNat)) ∧
      shift8 .rrc v c = (ByteOp.rrc.result v c, decide (v.toNat % 2 = 1)) ∧
      shift8 .rr v c = (ByteOp.rr.result v c, decide (v.toNat % 2 = 1)) ∧
      shift8 .sra v c = (ByteOp.sra.result v c, decide (v.toNat % 2 = 1)) ∧
      shift8 .srl v c = (ByteOp.srl.result v c, decide (v.toNat % 2 = 1)) := by decide
  exact hbits c v

/-- What a byte operation makes of a byte and how it writes F, as the model computes it. -/
def ByteOp.out (c : Bool) (v : Byte) : ByteOp → Byte × (Byte → Byte)
  | .inc => ((incFlags v).1, putSZV (incFlags v).2)
  | .dec => ((decFlags v).1, putSZV (decFlags v).2)
  | .res b => (v &&& ~~~bitMask b, id)
  | .set b => (v ||| bitMask b, id)
  | .rlc => shiftOut .rlc c v
  | .rrc => shiftOut .rrc c v
  | .rl => shiftOut .rl c v
  | .rr => shiftOut .rr c v
  | .sla => shiftOut .sla c v
  | .sra => shiftOut .sra c v
  | .srl => shiftOut .srl c v

/-- The flags of a shifted byte, the logical check by its value. -/
theorem shiftFlags_byte (r : Byte) (c : Bool) (f : Byte) :
    FlagsAre f (putFlags (shiftFlags r c) f) r.msb (decide (r = 0)) (decide (16 ≤ r.toNat)) c :=
  topBits_byte r ▸ putFlags_flagsAre (shiftFlags r c) f

theorem ByteOp.out_fst (op : ByteOp) (c : Bool) (v : Byte) : (op.out c v).1 = op.result v c := by
  obtain ⟨hrlc, hrl, hsla, hrrc, hrr, hsra, hsrl⟩ := shift8_eq v c
  cases op with
  | inc => show v + 1 = BitVec.ofNat 8 (v.toNat + 1); apply BitVec.eq_of_toNat_eq; simp
  | dec => show v - 1 = BitVec.ofNat 8 (v.toNat + 255); apply BitVec.eq_of_toNat_eq; simp; omega
  | res | set => rfl
  | rlc => exact congrArg Prod.fst hrlc
  | rrc => exact congrArg Prod.fst hrrc
  | rl => exact congrArg Prod.fst hrl
  | rr => exact congrArg Prod.fst hrr
  | sla => exact congrArg Prod.fst hsla
  | sra => exact congrArg Prod.fst hsra
  | srl => exact congrArg Prod.fst hsrl

/-- The flags a byte operation writes are those its arithmetic says. -/
theorem ByteOp.out_flags (op : ByteOp) (c : Bool) (v f : Byte) : op.FlagsOk v (op.result v c) f ((op.out c v).2 f) := by
  obtain ⟨hrlc, hrl, hsla, hrrc, hrr, hsra, hsrl⟩ := shift8_eq v c
  have hshift : ∀ {o : ShiftOp} {r : Byte} {k : Bool}, shift8 o v c = (r, k) →
      FlagsAre f ((shiftOut o c v).2 f) r.msb (decide (r = 0)) (decide (16 ≤ r.toNat)) k := fun h => by
    simp only [shiftOut, h]
    exact shiftFlags_byte _ _ f
  cases op with
  | inc => rw [← ByteOp.out_fst]; exact putSZV_flagsSzv (incFlags v).2 f
  | dec => rw [← ByteOp.out_fst]; exact putSZV_flagsSzv (decFlags v).2 f
  | res | set => rfl
  | rlc => exact hshift hrlc
  | rrc => exact hshift hrrc
  | rl => exact hshift hrl
  | rr => exact hshift hrr
  | sla => exact hshift hsla
  | sra => exact hshift hsra
  | srl => exact hshift hsrl

/-- A register form: the result in the destination register, then the flags. -/
theorem exec_byteOpReg {s : State} {i : Instr} {op : ByteOp} {x : R8} (hop : byteOp i = some op)
    (hx : byteOpReg i = some x) : privileged i = false ∧ exec i s =
      ((s.onDst fun y => y.setR8 x (op.out s.carry (s.r8 x)).1).onFlags (op.out s.carry (s.r8 x)).2).done := by
  have hid : ∀ u : State, u.onFlags id = u := fun u => by
    unfold State.onFlags State.onDst State.onAlt State.onMain
    split <;> rfl
  cases i <;> cases hx <;> cases hop
  case resBR | setBR => exact ⟨rfl, congrArg State.done (hid _).symm⟩
  all_goals exact ⟨rfl, rfl⟩

/-- Settles O19: `ByteOp.out` in the destination register. -/
theorem modifyRegisterComplete : Obligations.ModifyRegisterComplete := by
  intro s i op x hop hx
  obtain ⟨hp, hexec⟩ := exec_byteOpReg (s := s) hop hx
  have hc := completesCpu_dstFlags hexec hp (fun y => RegSet.setR8_f x _ y)
  rw [ByteOp.out_fst] at hc
  exact ⟨_, op.out_flags _ _ _, hc⟩

/-- Settles O20: the rotates by `shift8_eq`, NEG by the laws of `subFlags`. -/
theorem accumulatorComplete : Obligations.AccumulatorComplete := by
  intro s
  obtain ⟨hrlc, hrl, -, hrrc, hrr, -, -⟩ := shift8_eq s.cpu.main.a (flagC s.cpu.main.f)
  have hcpl : ∀ a : Byte, a ^^^ 0xFF = BitVec.ofNat 8 (255 - a.toNat) := by decide
  have hneg : ∀ a : Byte, subFlags 0 a false =
      (-a, ⟨(-a).msb, decide (a = 0), decide (a = 0x80), decide (a ≠ 0)⟩) := by decide
  have hrotate : ∀ {i : Instr} {o : ShiftOp} {r : Byte} {k : Bool}, shift8 o s.cpu.main.a (flagC s.cpu.main.f) = (r, k) →
      exec i s = ((s.setDst8 .a (shift8 o s.a s.carry).1).onFlags (putC (shift8 o s.a s.carry).2)).done →
      privileged i = false → ∃ g, FlagsC (dstF s.cpu) g k ∧ CompletesCpu i s (dstCpuF s.cpu (fun x => { x with a := r }) g) :=
    fun h he hp => by
      have hc := completesCpu_dstFlags he hp fun _ => rfl
      rw [show shift8 _ s.a s.carry = _ from h] at hc
      exact ⟨_, putC_flagsC _ _, hc⟩
  refine ⟨hcpl s.cpu.main.a ▸ completesCpu_dst rfl rfl, ?_, hrotate hrl rfl rfl, hrotate hrlc rfl rfl, hrotate hrr rfl rfl,
    hrotate hrrc rfl rfl⟩
  have hc : CompletesCpu .neg s (dstCpuF s.cpu (fun x => { x with a := (subFlags 0 s.cpu.main.a false).1 })
      (putFlags (subFlags 0 s.cpu.main.a false).2 (dstF s.cpu))) := completesCpu_dstFlags rfl rfl fun _ => rfl
  rw [hneg] at hc
  exact ⟨_, putFlags_flagsAre _ _, hc⟩

/-- The bit BIT tests. -/
theorem and_bitMask_eq_zero (v : Byte) (b : BitVec 3) : decide (v &&& bitMask b = 0) = !v.getLsbD b.toNat := by
  revert b v
  decide

/-- Settles O21: the value tested, read from a register or by the load. -/
theorem bitTestsComplete : Obligations.BitTestsComplete := by
  intro s b
  have hmem : ∀ {i : Instr} {a : Word} {p : Bool}, exec i s = .next { ((s.load8 a).2.testBit b (s.load8 a).1) with
      cpu := ((s.load8 a).2.testBit b (s.load8 a).1).cpu.retire p } → p = privileged i →
      ∃ g, FlagsZ (dstF s.cpu) g (!(s.load8 a).1.getLsbD b.toNat) ∧
        CompletesRead i s (s.load8 a).2.dev (dstCpuF s.cpu id g) := fun {i a p} he hp => by
    refine ⟨_, putZ_flagsZ _ _, ?_⟩
    rw [CompletesRead, he, hp, ← and_bitMask_eq_zero]
    unfold State.testBit
    rw [State.onFlags_state, State.load8_state]
  refine ⟨hmem rfl rfl, fun _ => hmem rfl rfl, fun _ => hmem rfl rfl, fun r => ?_⟩
  rw [← and_bitMask_eq_zero]
  exact ⟨_, putZ_flagsZ _ _, completesCpu_flags rfl rfl⟩

/-! Flags, latches, priority and mode -/

/-- Settles O28. -/
theorem flagsAndPrefixesComplete : Obligations.FlagsAndPrefixesComplete := fun s =>
  ⟨rfl, ⟨_, putC_flagsC true _, completesCpu_flags rfl rfl⟩, ⟨_, putC_flagsC (!flagC s.cpu.main.f) _, completesCpu_flags rfl rfl⟩,
    rfl, rfl, rfl⟩

/-- Where R658 does not refuse, the instruction has its effect. -/
theorem State.unlessPriorityRefused_eq {s : State} (h : s.priorityRefused = false) (n : String) (r : Result) :
    s.unlessPriorityRefused n r = r := by simp [State.unlessPriorityRefused, h]

/-- Settles O29. -/
theorem priorityAndModeComplete : Obligations.PriorityAndModeComplete := by
  intro s
  refine ⟨rfl, rfl, rfl, fun h => s.unlessPriorityRefused_eq h _ _, rfl, rfl, fun h => s.unlessPriorityRefused_eq h _ _,
    ⟨_, putC_flagsC (bit s.cpu.su 0) _, rfl⟩, fun ha => ?_, fun ha hu => ?_, fun ha hu => ?_⟩
  · show (if s.cpu.altd then _ else if s.userMode then _ else _) = _
    rw [if_pos ha]; rfl
  · show (if s.cpu.altd then _ else if s.userMode then _ else _) = _
    rw [ha, hu]; rfl
  · show (if s.cpu.altd then _ else if s.userMode then _ else _) = _
    rw [ha, hu]; rfl

/-- `DJNZ e`: the decremented B is written and tested (`47_control.md` R502). -/
theorem djnzE_completes (e : Byte) (s : State) : CompletesCpu (.djnzE e) s
    { dstCpu s.cpu (fun x => { x with b := s.cpu.main.b - 1 }) with
      pc := if s.cpu.main.b - 1 = 0 then s.cpu.pc else s.cpu.pc + e.signExtend 16 } := by
  have hpc : (dstCpu s.cpu fun x => { x with b := s.cpu.main.b - 1 }).pc = s.cpu.pc := by
    unfold dstCpu; split <;> rfl
  show (if s.cpu.main.b - 1 = 0 then s.onDst fun x => { x with b := s.cpu.main.b - 1 }
    else (s.onDst fun x => { x with b := s.cpu.main.b - 1 }).jumpBy e).done = _
  rw [State.onDst_state]
  split
  · rw [← hpc]; rfl
  · rw [← hpc]; rfl

/-- Settles O24. -/
theorem jumpsComplete : Obligations.JumpsComplete := fun s =>
  ⟨rfl, rfl, rfl, fun _ => rfl, fun f mn => jpFMn_completes f mn s, fun _ => rfl, fun cc e => jrCcE_completes cc e s,
    fun e => djnzE_completes e s, fun _ _ => rfl⟩

end Sys2Proof.Machine
end

section
/-! What the loads and stores leave. -/
namespace Sys2Proof.Machine

/-! Loads -/

/-- A byte load into the destination register. -/
theorem completesRead_loadByte {i : Instr} {s : State} {r : R8} {a : Word} (h : exec i s = s.loadByte r a)
    (hp : privileged i = false) : CompletesRead i s (s.load8 a).2.dev (dstCpu s.cpu fun x => x.setR8 r (s.load8 a).1) := by
  unfold CompletesRead
  rw [h, hp]
  unfold State.loadByte State.setDst8
  rw [State.onDst_state, State.load8_state]
  rfl

/-- Settles O2: every form is `State.loadByte`. -/
theorem byteLoadsComplete : Obligations.ByteLoadsComplete := by
  intro s i r a h
  cases i <;> cases h
  all_goals exact completesRead_loadByte rfl rfl

/-- A word load changes the devices only. -/
theorem State.load16_state (s : State) (a : Word) : (s.load16 a).2 = { s with dev := (s.load16 a).2.dev } := by
  have htime : ∀ t : State, t.timeInside = { t with dev := t.timeInside.dev } := fun t => by
    unfold State.timeInside; split <;> rfl
  unfold State.load16
  dsimp only
  rw [State.load8_state, htime, State.load8_state s a]

/-- A word load into its destination. -/
theorem completesRead_loadWord {i : Instr} {s : State} {ss : SS} {a : Word} (h : exec i s = s.loadWord ss a)
    (hp : privileged i = false) :
    CompletesRead i s (s.load16 a).2.dev (WordDst.write s.cpu (s.load16 a).1 (.ss ss)) := by
  unfold CompletesRead
  rw [h, hp]
  unfold State.loadWord
  rw [State.setDstSs_state, State.load16_state]
  rfl

/-- Settles O3: every form is `State.loadWord`, or a word load into IX or IY. -/
theorem wordLoadsComplete : Obligations.WordLoadsComplete := by
  intro s i x a h
  cases i <;> cases h
  case ldIxAtMn =>
    show (((s.load16 a).2.setIx (s.load16 a).1).done : Result) = _
    rw [State.load16_state]; rfl
  case ldIyAtMn =>
    show (((s.load16 a).2.setIy (s.load16 a).1).done : Result) = _
    rw [State.load16_state]; rfl
  all_goals exact completesRead_loadWord rfl rfl

/-! Stores -/

/-- A byte write in the space IOI or IOE names: memory, or what `ioWrites` and `extWrites` say. -/
theorem State.store8_eq {s : State} (hl : s.writesLeft = none) (a : Word) (v : Byte) :
    (s.cpu.iospace = .memory → s.store8 a v = .next (s.memWrite a v)) ∧
    (s.cpu.iospace = .internal → s.store8 a v = match ioWriteInternal s.cfg s.userMode s.dev a v with
      | .ok e => .next { s with dev := e }
      | .error r => .refused r) ∧
    (s.cpu.iospace = .external → s.store8 a v = .next { s with dev := ioWriteExternal s.cfg s.userMode s.dev a v }) := by
  refine ⟨State.store8_memory a v, fun h => ?_, fun h => ?_⟩
  · simp only [State.store8, h]
    cases hw : ioWriteInternal s.cfg s.userMode s.dev a v with
    | ok e => exact State.ioWrite_ok e hl
    | error r => simp [State.ioWrite, hl]
  · simp only [State.store8, h]
    exact State.ioWrite_ok _ hl

/-- The bytes written one after the other in that space. -/
def State.storeBytes (s : State) : List (Word × Byte) → Result
  | [] => .next s
  | w :: ws => andThen (s.store8 w.1 w.2) fun t => t.storeBytes ws

theorem State.storeBytes_one (s : State) (a : Word) (v : Byte) : s.storeBytes [(a, v)] = s.store8 a v := by
  unfold State.storeBytes
  cases s.store8 a v <;> rfl

theorem State.storeBytes_word (s : State) (a w : Word) : s.storeBytes (wordBytes a w) = s.store16 a w := by
  show andThen (s.store8 a (loByte w)) (fun t => t.storeBytes [(a + 1, hiByte w)]) = s.store16 a w
  simp only [State.storeBytes_one]
  rfl

/-- In memory they are memory writes. -/
theorem State.storeBytes_memory {s : State} (h : s.cpu.iospace = .memory) (ws : List (Word × Byte)) :
    s.storeBytes ws = .next (ws.foldl (fun t w => t.memWrite w.1 w.2) s) := by
  induction ws generalizing s with
  | nil => rfl
  | cons w ws ih =>
    show andThen (s.store8 w.1 w.2) _ = _
    rw [State.store8_memory _ _ h]
    exact ih (s := s.memWrite w.1 w.2) h

/-- In internal I/O space they are `ioWrites`. -/
theorem State.storeBytes_internal {s : State} (hl : s.writesLeft = none) (h : s.cpu.iospace = .internal)
    (ws : List (Word × Byte)) : s.storeBytes ws = match ioWrites s.cfg s.cpu.su ws s.dev with
      | .ok e => .next { s with dev := e }
      | .error r => .refused r := by
  induction ws generalizing s with
  | nil => rfl
  | cons w ws ih =>
    have hw := (State.store8_eq hl w.1 w.2).2.1 h
    have hu : s.userMode = userModeAt s.cfg s.cpu.su s.dev := rfl
    show andThen (s.store8 w.1 w.2) _ = _
    rw [hw, hu]
    unfold ioWrites
    cases ioWriteInternal s.cfg (userModeAt s.cfg s.cpu.su s.dev) s.dev w.1 w.2 with
    | ok e => exact ih (s := { s with dev := e }) hl h
    | error r => rfl

/-- Nothing in external I/O space changes EDMR. -/
theorem ioWriteExternal_user (cfg : Params) (u : Bool) (d : Dev) (a : Word) (v : Byte) :
    (ioWriteExternal cfg u d a v).user = d.user := by
  have h := secured_ioWriteExternal cfg u d a v
  simp only [Dev.secured, Prod.mk.injEq] at h
  exact h.2.1

/-- In external I/O space they are `extWrites`. -/
theorem State.storeBytes_external {s : State} (hl : s.writesLeft = none) (h : s.cpu.iospace = .external)
    (ws : List (Word × Byte)) :
    s.storeBytes ws = .next { s with dev := extWrites s.cfg s.userMode ws s.dev } := by
  induction ws generalizing s with
  | nil => rfl
  | cons w ws ih =>
    have hu : ({ s with dev := ioWriteExternal s.cfg s.userMode s.dev w.1 w.2 } : State).userMode = s.userMode := by
      simp [State.userMode, Dev.edmf, ioWriteExternal_user]
    show andThen (s.store8 w.1 w.2) _ = _
    rw [(State.store8_eq hl w.1 w.2).2.2 h, andThen_of_next]
    exact (ih (s := { s with dev := ioWriteExternal s.cfg s.userMode s.dev w.1 w.2 }) hl h).trans (by rw [hu]; rfl)

/-- Memory writes one after the other. -/
theorem Wrote.all {s : State} (hl : s.writesLeft = none) (ws : List (Word × Byte)) :
    Wrote s (ws.foldl (fun t w => t.memWrite w.1 w.2) s) false ws := by
  have hfrom : ∀ (ws vs : List (Word × Byte)) (t : State), Wrote s t false vs →
      Wrote s (ws.foldl (fun t w => t.memWrite w.1 w.2) t) false (vs ++ ws) := fun ws => by
    induction ws with
    | nil => intro vs t h; simpa using h
    | cons w ws ih =>
      intro vs t h
      have hnext := ih (vs ++ [w]) _ (h.data hl w.1 w.2)
      rwa [List.append_assoc] at hnext
  exact hfrom ws [] s (.nothing s false)

/-- An instruction that stores bytes and then changes registers: as a store in memory, and under IOI or IOE as
writes in I/O space. -/
theorem completesStore_storeBytes {i : Instr} {s t : State} {ws : List (Word × Byte)} {g : Cpu → Cpu}
    (ht : ∃ n, t = { s with dev := { s.dev with free := n } })
    (h : exec i s = andThen (t.storeBytes ws) fun u => .next { u with cpu := (g u.cpu).retire (privileged i) })
    (hio : s.cpu.iospace = .memory) : CompletesStore i s false ws (g s.cpu) := by
  intro hl
  obtain ⟨n, rfl⟩ := ht
  have hw : Wrote s _ false ws := (Wrote.all (s := { s with dev := { s.dev with free := n } }) hl ws).ofDraw
  rw [State.storeBytes_memory (s := { s with dev := { s.dev with free := n } }) hio ws, andThen_of_next] at h
  exact hw.completes h (by rw [hw.cpu]) hl

theorem completesPrefixed_storeBytes {i : Instr} {s t : State} {d : Dev} {ws : List (Word × Byte)} {g : Cpu → Cpu}
    (ht : t = { s with dev := d }) (hu : d.user.edmr = s.dev.user.edmr)
    (h : exec i s = andThen (t.storeBytes ws) fun u => .next { u with cpu := (g u.cpu).retire (privileged i) }) :
    CompletesPrefixed i s d ws (g s.cpu) := by
  subst ht
  intro hl
  refine ⟨fun hio => ?_, fun hio => ?_⟩
  · rw [h, State.storeBytes_internal (s := { s with dev := d }) hl hio]
    dsimp only
    cases ioWrites s.cfg s.cpu.su ws d <;> rfl
  · have hmode : ({ s with dev := d } : State).userMode = s.userMode := by simp [State.userMode, Dev.edmf, hu]
    rw [CompletesRead, h, State.storeBytes_external (s := { s with dev := d }) hl hio, hmode]
    rfl

/-- Settles O4: every form is its bytes stored. -/
theorem storesComplete : Obligations.StoresComplete := by
  intro s i ws h
  have hexec : exec i s = andThen (s.storeBytes ws) fun u => .next { u with cpu := (id u.cpu).retire (privileged i) } := by
    rcases h with ⟨a, v, hi, rfl⟩ | ⟨a, w, hi, rfl⟩
    · rw [State.storeBytes_one]
      cases i <;> cases hi
      all_goals rfl
    · rw [State.storeBytes_word]
      cases i <;> cases hi
      all_goals rfl
  exact ⟨completesStore_storeBytes ⟨s.dev.free, rfl⟩ hexec, completesPrefixed_storeBytes rfl rfl hexec⟩

end Sys2Proof.Machine
end

section
/-! What the instructions that compute on a byte in memory or I/O space leave: the ALU, read-modify-write, the block moves and
the multiply-accumulates. -/
namespace Sys2Proof.Machine

/-! The two-operand ALU instructions -/

/-- Exclusive or, as R350 writes it. -/
theorem xor_eq_or (a b : Byte) : (a &&& ~~~b) ||| (~~~a &&& b) = a ^^^ b := by
  apply BitVec.eq_of_getLsbD_eq
  intro k hk
  simp only [BitVec.getLsbD_or, BitVec.getLsbD_and, BitVec.getLsbD_xor, BitVec.getLsbD_not, hk, decide_true, Bool.true_and]
  cases a.getLsbD k <;> cases b.getLsbD k <;> rfl

/-- The result of an ALU operation is the arithmetic of R350. -/
theorem alu_fst (sense : SubCarry) (op : AluOp) (a b : Byte) (c : Bool) : (alu sense op a b c).1 = aluResult op a b c := by
  cases op with
  | add => exact addFlags_sum8 a b false
  | adc => exact addFlags_sum8 a b c
  | sub | cp => exact (subFlags_difference8 a b false).trans (congrArg (BitVec.ofInt 8) (Int.sub_zero _))
  | sbc => exact subFlags_difference8 a b c
  | and | or => rfl
  | xor => exact (xor_eq_or a b).symm

/-- Its L/V. -/
theorem alu_lv (sense : SubCarry) (op : AluOp) (a b : Byte) (c : Bool) :
    (alu sense op a b c).2.lv = aluLv op a b (aluResult op a b c) := by
  rw [← alu_fst sense]
  cases op with
  | add => exact addFlags_overflow8 a b false
  | adc => exact addFlags_overflow8 a b c
  | sub => cases sense <;> exact subFlags_overflow8 a b false
  | cp => exact subFlags_overflow8 a b false
  | sbc => exact subFlags_overflow8 a b c
  | and | or | xor => exact topBits_byte _

/-- Its C. -/
theorem alu_c (sense : SubCarry) (op : AluOp) (a b : Byte) (c : Bool) : (alu sense op a b c).2.c = aluC sense op a b c := by
  cases op with
  | add => exact decide_eq_decide.2 Nat.succ_le_iff
  | adc => exact decide_eq_decide.2 Nat.succ_le_iff
  | sub =>
    cases sense with
    | asDocumented =>
      show (!decide (a.toNat < b.toNat + 0)) = decide (b.toNat ≤ a.toNat)
      rw [← decide_not, decide_eq_decide]
      exact Nat.not_lt
    | borrow => rfl
  | sbc | and | or | xor | cp => rfl

/-- Its S and Z. -/
theorem alu_sz (sense : SubCarry) (op : AluOp) (a b : Byte) (c : Bool) :
    (alu sense op a b c).2.s = (aluResult op a b c).msb ∧
    (alu sense op a b c).2.z = decide (aluResult op a b c = 0) := by
  rw [← alu_fst sense]
  cases op with
  | sub => cases sense <;> exact ⟨rfl, rfl⟩
  | _ => exact ⟨rfl, rfl⟩

theorem alu_flagsAre (sense : SubCarry) (op : AluOp) (a b : Byte) (c : Bool) (f : Byte) :
    FlagsAre f (putFlags (alu sense op a b c).2 f) (aluResult op a b c).msb (decide (aluResult op a b c = 0))
      (aluLv op a b (aluResult op a b c)) (aluC sense op a b c) := by
  rw [← alu_lv sense, ← alu_c, ← (alu_sz sense op a b c).1, ← (alu_sz sense op a b c).2]
  exact putFlags_flagsAre _ f

/-- `aluStep` in the destination set: CP writes F alone. -/
theorem State.aluStep_state (s : State) (op : AluOp) (b : Byte) : s.aluStep op b = { s with
    cpu := dstCpuF s.cpu (fun x => if op = .cp then x else { x with a := aluResult op s.cpu.main.a b (flagC s.cpu.main.f) })
      (putFlags (alu s.cfg.subCarry op s.cpu.main.a b (flagC s.cpu.main.f)).2 (dstF s.cpu)) } := by
  unfold State.aluStep
  rw [State.onDst_state, alu_fst]
  by_cases hop : op = .cp
  · simp only [hop, if_true]
    unfold dstCpuF dstCpu dstF
    split <;> rfl
  · simp only [hop, if_false]
    unfold dstCpuF dstCpu dstF
    split <;> rfl

/-- Reading the operand changes the devices only. -/
theorem Operand.read_state (s : State) (o : Operand) : (o.read s).2 = { s with dev := (o.read s).2.dev } :=
  match o with
  | .value _ => rfl
  | .at a => State.load8_state s a

/-- Every form is `aluStep` on its operand. -/
theorem exec_aluForm {s : State} {i : Instr} {op : AluOp} {o : Operand} (h : aluForm s i = some (op, o)) :
    privileged i = false ∧ exec i s = ((o.read s).2.aluStep op (o.read s).1).done := by
  cases i <;> cases h
  all_goals exact ⟨rfl, rfl⟩

/-- Settles O17. -/
theorem aluComplete : Obligations.AluComplete := by
  intro s i op o h
  obtain ⟨hp, hexec⟩ := exec_aluForm h
  refine ⟨_, alu_flagsAre _ _ _ _ _ _, ?_⟩
  rw [CompletesRead, hexec, hp, State.aluStep_state, Operand.read_state]
  rfl

/-! Read, modify, write -/

/-- A load leaves EDMR. -/
theorem State.load8_edmr (s : State) (a : Word) : (s.load8 a).2.dev.user.edmr = s.dev.user.edmr := by
  have hkept : (s.load8 a).2.dev.kept = s.dev.kept := by
    unfold State.load8
    split
    · show (s.memRead a).2.dev.kept = _
      rw [State.memRead_state]; rfl
    · exact kept_ioReadInternal _ _ _ _
    · exact kept_ioReadExternal _ _ _ _
  simp only [Dev.kept, Prod.mk.injEq] at hkept
  exact hkept.2.1

/-- A data read changes the devices only. -/
theorem State.memRead_devOnly (s : State) (a : Word) : (s.memRead a).2 = { s with dev := (s.memRead a).2.dev } := by
  rw [State.memRead_state]

/-- In memory a load changes the count of free values only. -/
theorem State.load8_memory {s : State} (h : s.cpu.iospace = .memory) (a : Word) : s.load8 a = s.memRead a := by
  simp [State.load8, h]

/-- Every form is `State.modify` with what its operation makes of the byte. -/
theorem exec_modifyAddr {s : State} {i : Instr} {op : ByteOp} {a : Word} (hop : byteOp i = some op)
    (ha : modifyAddr s i = some a) : privileged i = false ∧ exec i s = s.modify a fun v => op.out s.carry v := by
  cases i <;> cases ha <;> cases hop
  all_goals exact ⟨rfl, rfl⟩

/-- The bytes and registers `State.modify` writes. -/
theorem State.modify_eq (s : State) (a : Word) (g : Byte → Byte × (Byte → Byte)) : s.modify a g =
    andThen ((s.load8 a).2.storeBytes [(a, (g (s.load8 a).1).1)]) fun u =>
      .next { u with cpu := (dstCpuF u.cpu id ((g (s.load8 a).1).2 (dstF u.cpu))).retire false } := by
  rw [State.storeBytes_one]
  unfold State.modify
  dsimp only
  congr 1
  funext u
  rw [State.onFlags_state]
  rfl

/-- Settles O18: one read, then the write of the result, then the flags. -/
theorem modifyMemoryComplete : Obligations.ModifyMemoryComplete := by
  intro s i op a hop ha
  obtain ⟨hp, hexec⟩ := exec_modifyAddr hop ha
  rw [State.modify_eq, ByteOp.out_fst, ← hp] at hexec
  refine ⟨_, op.out_flags _ _ _, fun hio => ?_, ?_⟩
  · refine completesStore_storeBytes (g := fun c => dstCpuF c id ((op.out s.carry (s.load8 a).1).2 (dstF c)))
      ⟨(s.memRead a).2.dev.free, ?_⟩ hexec hio
    rw [State.load8_memory hio]
    exact State.memRead_state s a
  · exact completesPrefixed_storeBytes (g := fun c => dstCpuF c id ((op.out s.carry (s.load8 a).1).2 (dstF c)))
      (State.load8_state s a) (State.load8_edmr s a) hexec

/-! Block moves -/

/-- The CPU at the end of an iteration. -/
def Cpu.blockEnd (c : Cpu) (src dst : Stride) (rep : Bool) : Cpu :=
  { c with
    main := { ((c.main.setBc (c.main.bc - 1)).setDe (dst.move c.main.de)).setHl (src.move c.main.hl) with
      f := putLv (decide (c.main.bc - 1 = 0)) c.main.f }
    pc := if rep = true ∧ c.main.bc - 1 ≠ 0 then c.start else c.pc }

theorem State.blockRegs_state (s : State) (src dst : Stride) :
    s.blockRegs src dst = { s with cpu := s.cpu.blockEnd src dst false } := by
  simp only [Cpu.blockEnd, Bool.false_eq_true, false_and, if_false]
  rfl

/-- After the iteration BC is one less. -/
theorem State.blockRegs_bc (s : State) (src dst : Stride) : (s.blockRegs src dst).bc = s.cpu.main.bc - 1 :=
  word_hi_lo (s.cpu.main.bc - 1)

theorem State.blockRegs_repeat (s : State) (src dst : Stride) :
    (s.blockRegs src dst).repeatWhileBc = { s with cpu := s.cpu.blockEnd src dst true } := by
  unfold State.repeatWhileBc
  rw [State.blockRegs_bc]
  by_cases hbc : s.cpu.main.bc - 1 = 0
  · rw [if_pos hbc, State.blockRegs_state]
    simp only [hbc, Cpu.blockEnd, ne_eq, not_true_eq_false, and_false, if_false]
  · rw [if_neg hbc, State.blockRegs_state]
    simp only [hbc, Cpu.blockEnd, ne_eq, not_false_eq_true, and_true, if_true, Bool.false_eq_true, if_false]
    rfl

/-- The stride as the number a claim names. -/
def Stride.toInt : Stride → Int
  | .down => -1
  | .fixed => 0
  | .up => 1

theorem Stride.move_eq (t : Stride) (w : Word) : t.move w = w + BitVec.ofInt 16 t.toInt := by
  cases t with
  | down => exact BitVec.sub_eq_add_neg w 1
  | fixed => exact (BitVec.add_zero w).symm
  | up => rfl

theorem Cpu.blockEnd_eq (s : State) (src dst : Stride) (rep : Bool) : s.cpu.blockEnd src dst rep =
    blockCpu s src.toInt dst.toInt rep (putLv (decide (s.cpu.main.bc - 1 = 0)) s.cpu.main.f) := by
  unfold Cpu.blockEnd blockCpu
  rw [Stride.move_eq, Stride.move_eq]

/-- What a block move does after its write. -/
theorem exec_blockForm {s : State} {i : Instr} {w rep : Bool} {dh dd : Int} (h : blockForm i = some (w, dh, dd, rep)) :
    privileged i = false ∧ ∃ src dst : Stride, src.toInt = dh ∧ dst.toInt = dd ∧ exec i s =
      andThen (if w then (s.memRead s.hl).2.store8 s.de (s.memRead s.hl).1
        else .next ((s.load8 s.hl).2.memWrite s.de (s.load8 s.hl).1)) fun u =>
        .next { u with cpu := (u.cpu.blockEnd src dst rep).retire false } := by
  have hout : ∀ (src dst : Stride) (k : State → State) (b : Bool),
      (∀ u : State, k (u.blockRegs src dst) = { u with cpu := u.cpu.blockEnd src dst b }) →
      andThen (s.blockOut src dst) (fun t => (k t).done) =
        andThen ((s.memRead s.hl).2.store8 s.de (s.memRead s.hl).1) fun u =>
          .next { u with cpu := (u.cpu.blockEnd src dst b).retire false } := fun src dst k b hk => by
    unfold State.blockOut
    cases (s.memRead s.hl).2.store8 s.de (s.memRead s.hl).1 with
    | next u => simp only [andThen_of_next, hk]; rfl
    | fault e => cases e
    | refused e => rfl
  have hin : ∀ src dst : Stride, andThen (s.blockIn src dst) (fun t => t.repeatWhileBc.done) =
      andThen (.next ((s.load8 s.hl).2.memWrite s.de (s.load8 s.hl).1)) fun u =>
        .next { u with cpu := (u.cpu.blockEnd src dst true).retire false } := fun src dst => by
    unfold State.blockIn
    simp only [andThen_of_next, State.blockRegs_repeat]
    rfl
  cases i <;> cases h
  case ldd => exact ⟨rfl, .down, .down, rfl, rfl, hout _ _ id _ fun u => u.blockRegs_state _ _⟩
  case ldi => exact ⟨rfl, .up, .up, rfl, rfl, hout _ _ id _ fun u => u.blockRegs_state _ _⟩
  case lddr => exact ⟨rfl, .down, .down, rfl, rfl, hout _ _ State.repeatWhileBc _ fun u => u.blockRegs_repeat _ _⟩
  case ldir => exact ⟨rfl, .up, .up, rfl, rfl, hout _ _ State.repeatWhileBc _ fun u => u.blockRegs_repeat _ _⟩
  case lddsr => exact ⟨rfl, .down, .fixed, rfl, rfl, hout _ _ State.repeatWhileBc _ fun u => u.blockRegs_repeat _ _⟩
  case ldisr => exact ⟨rfl, .up, .fixed, rfl, rfl, hout _ _ State.repeatWhileBc _ fun u => u.blockRegs_repeat _ _⟩
  case lsdr => exact ⟨rfl, .down, .down, rfl, rfl, hin _ _⟩
  case lsir => exact ⟨rfl, .up, .up, rfl, rfl, hin _ _⟩
  case lsddr => exact ⟨rfl, .fixed, .down, rfl, rfl, hin _ _⟩
  case lsidr => exact ⟨rfl, .fixed, .up, rfl, rfl, hin _ _⟩

/-- Settles O22: IOI or IOE moves the write of one kind and the read of the other; in memory both are the same. -/
theorem blockMovesComplete : Obligations.BlockMovesComplete := by
  intro s i w rep dh dd h
  obtain ⟨hp, src, dst, rfl, rfl, hexec⟩ := exec_blockForm (s := s) h
  rw [← hp] at hexec
  have hone : decide (s.cpu.main.bc - 1 = 0) = decide (s.cpu.main.bc = 1) := decide_eq_decide.2 (by bv_omega)
  refine ⟨_, hone ▸ putLv_flagsAre (decide (s.cpu.main.bc - 1 = 0)) s.cpu.main.f, ?_, ?_, ?_⟩
  · intro hio
    rw [← hone, ← Cpu.blockEnd_eq]
    refine completesStore_storeBytes (t := (s.memRead s.hl).2) (g := fun c => c.blockEnd src dst rep)
      ⟨_, State.memRead_state s s.hl⟩ ?_ hio
    rw [State.storeBytes_one, hexec]
    cases w
    · have hio' : (s.memRead s.hl).2.cpu.iospace = .memory := by rw [State.memRead_cpu]; exact hio
      rw [if_neg Bool.false_ne_true, State.load8_memory hio, State.store8_memory _ _ hio']
      rfl
    · rfl
  · rintro rfl
    rw [← hone, ← Cpu.blockEnd_eq]
    refine completesPrefixed_storeBytes (t := (s.memRead s.hl).2) (g := fun c => c.blockEnd src dst rep)
      (State.memRead_devOnly s s.hl) (by rw [State.memRead_state]) ?_
    rw [State.storeBytes_one, hexec]
    rfl
  · rintro rfl - hl
    rw [← hone, ← Cpu.blockEnd_eq]
    have hw := Wrote.one ((s.load8_data s.hl).1.whole hl) s.de (s.load8 s.hl).1
    refine ⟨_, hexec, ?_, hw.ma⟩
    show (Cpu.blockEnd (State.load8 s s.hl).2.cpu src dst rep).retire _ = _
    rw [(s.load8_data s.hl).1.cpu]

end Sys2Proof.Machine
end

section
/-! What the multiply-accumulates, the LDP instructions and the instructions that use the stack leave. -/
namespace Sys2Proof.Machine

/-! Multiply-accumulate -/

/-- The CPU after the write of a multiply-accumulate iteration. -/
def Cpu.umEnd (c : Cpu) (carryWord : Word) (k : Bool) : Cpu :=
  { c with
    main := { (c.main.setBc (c.main.bc - 1)).setHl (c.main.hl + 1) with f := putC k c.main.f }
    alt := c.alt.setDe carryWord
    ix := c.ix + 1
    iy := c.iy + 1
    pc := if c.main.bc - 1 = 0 then c.pc else c.start }

theorem State.umEnd_state (s : State) (q : BitVec 17) :
    s.umEnd q = { s with cpu := s.cpu.umEnd (q.extractLsb' 0 16) (bit q 16) } := by
  have hbc : word (hiByte (s.cpu.main.bc - 1)) (loByte (s.cpu.main.bc - 1)) = s.cpu.main.bc - 1 := word_hi_lo _
  show (if word (hiByte (s.cpu.main.bc - 1)) (loByte (s.cpu.main.bc - 1)) = 0 then _ else _) = _
  rw [hbc]
  by_cases h : s.cpu.main.bc - 1 = 0
  · rw [if_pos h]
    simp only [Cpu.umEnd, if_pos h]
    rfl
  · rw [if_neg h]
    simp only [Cpu.umEnd, if_neg h]
    rfl

/-- A data read leaves the state but for the count of free values. -/
theorem State.memRead_free (s : State) (a : Word) : ∃ n, (s.memRead a).2 = { s with dev := { s.dev with free := n } } :=
  ⟨_, s.memRead_state a⟩

/-- The two reads do. -/
theorem State.umRead_state (s : State) : ∃ n, s.umRead.2.2 = { s with dev := { s.dev with free := n } } := by
  obtain ⟨n, hx⟩ := s.memRead_free s.cpu.ix
  obtain ⟨m, hy⟩ := State.memRead_free { s with dev := { s.dev with free := n } } s.cpu.iy
  refine ⟨m, ?_⟩
  show ((s.memRead s.cpu.ix).2.memRead s.cpu.iy).2 = _
  rw [hx, hy]

/-- Reads, one write, then registers: an iteration. -/
theorem completesStore_um {i : Instr} {s : State} {v : Byte} {q : BitVec 17} {w : Word} {k : Bool}
    (h : exec i s = ((s.umRead.2.2.memWrite s.hl v).umEnd q).done) (hp : privileged i = false)
    (hw : q.extractLsb' 0 16 = w) (hk : bit q 16 = k) :
    CompletesStore i s false [(s.cpu.main.hl, v)] (s.cpu.umEnd w k) := by
  intro hl
  obtain ⟨n, hn⟩ := s.umRead_state
  rw [hn, State.umEnd_state, hw, hk] at h
  have hwrote : Wrote s _ false [(s.cpu.main.hl, v)] :=
    (Wrote.one (s := { s with dev := { s.dev with free := n } }) hl s.hl v).ofDraw
  exact hwrote.completes h (by rw [hp]; rfl) hl

theorem umaCarry_low (t : Nat) : (umaCarry t).extractLsb' 0 16 = BitVec.ofNat 16 (t / 256) := by
  apply BitVec.eq_of_toNat_eq
  simp only [umaCarry, BitVec.extractLsb'_toNat, Nat.shiftRight_zero, BitVec.toNat_ofNat]
  omega

theorem bit16_eq (q : BitVec 17) : bit q 16 = decide (65536 ≤ q.toNat) := BitVec.msb_eq_decide q

theorem umaCarry_high {t : Nat} (h : t < 33554432) : bit (umaCarry t) 16 = decide (16777216 ≤ t) := by
  rw [bit16_eq, decide_eq_decide, umaCarry, BitVec.toNat_ofNat]
  omega

/-- The low word of a 17-bit number. -/
theorem ofInt17_low (q : Int) : (BitVec.ofInt 17 q).extractLsb' 0 16 = BitVec.ofInt 16 q := by
  apply BitVec.eq_of_toNat_eq
  simp only [BitVec.extractLsb'_toNat, Nat.shiftRight_zero, BitVec.toNat_ofInt]
  omega

theorem ofInt17_high (q : Int) : bit (BitVec.ofInt 17 q) 16 = decide (65536 ≤ q % 131072) := by
  rw [bit16_eq, decide_eq_decide, BitVec.toNat_ofInt]
  omega

/-- Settles O23: the two bytes read, the write, `Cpu.umEnd`. -/
theorem multiplyAccumulateComplete : Obligations.MultiplyAccumulateComplete := by
  intro s
  have hx := (s.peek s.cpu.ix).isLt
  have hy := (s.peekAfter [s.cpu.ix] s.cpu.iy).isLt
  have hde := s.cpu.main.de.isLt
  have hdea := s.cpu.alt.de.isLt
  have hc : (flagC s.cpu.main.f).toNat ≤ 1 := Bool.toNat_le _
  have hmul : (s.peekAfter [s.cpu.ix] s.cpu.iy).toNat * s.cpu.main.de.toNat ≤ 255 * 65535 :=
    Nat.mul_le_mul (by omega) (by omega)
  have hsum : umaSum (s.peek s.cpu.ix) (s.peekAfter [s.cpu.ix] s.cpu.iy) s.cpu.main.de s.cpu.alt.de (flagC s.cpu.main.f) =
      (s.peek s.cpu.ix).toNat + ((s.peekAfter [s.cpu.ix] s.cpu.iy).toNat * s.cpu.main.de.toNat + s.cpu.alt.de.toNat +
        (flagC s.cpu.main.f).toNat) := by unfold umaSum; omega
  dsimp only
  generalize hp : (s.peekAfter [s.cpu.ix] s.cpu.iy).toNat * s.cpu.main.de.toNat + s.cpu.alt.de.toNat +
    (flagC s.cpu.main.f).toNat = p at hsum ⊢
  have hplt : p ≤ 16777216 := by omega
  have hdiff : umsDiff (s.peek s.cpu.ix) (s.peekAfter [s.cpu.ix] s.cpu.iy) s.cpu.main.de s.cpu.alt.de (flagC s.cpu.main.f) =
      ((s.peek s.cpu.ix).toNat : Int) - p := by rw [← hp]; rfl
  have hums : exec .ums s = ((s.umRead.2.2.memWrite s.hl (BitVec.ofInt 8 (umsDiff (s.peek s.cpu.ix)
      (s.peekAfter [s.cpu.ix] s.cpu.iy) s.cpu.main.de s.cpu.alt.de (flagC s.cpu.main.f)))).umEnd (umsCarry s.cfg.umsForm
      (umsDiff (s.peek s.cpu.ix) (s.peekAfter [s.cpu.ix] s.cpu.iy) s.cpu.main.de s.cpu.alt.de (flagC s.cpu.main.f)))).done := rfl
  have huma : exec .uma s = ((s.umRead.2.2.memWrite s.hl (BitVec.ofNat 8 (umaSum (s.peek s.cpu.ix)
      (s.peekAfter [s.cpu.ix] s.cpu.iy) s.cpu.main.de s.cpu.alt.de (flagC s.cpu.main.f)))).umEnd (umaCarry (umaSum
      (s.peek s.cpu.ix) (s.peekAfter [s.cpu.ix] s.cpu.iy) s.cpu.main.de s.cpu.alt.de (flagC s.cpu.main.f)))).done := rfl
  rw [hsum] at huma
  rw [hdiff] at hums
  refine ⟨⟨_, putC_flagsC _ _, ?_⟩, fun hform => ⟨_, putC_flagsC _ _, ?_⟩, fun hform => ⟨_, putC_flagsC _ _, ?_⟩⟩
  · exact completesStore_um huma rfl (umaCarry_low _) (umaCarry_high (by omega))
  · rw [hform] at hums
    refine completesStore_um hums rfl (ofInt17_low _) ((ofInt17_high _).trans (decide_eq_decide.2 ?_))
    omega
  · rw [hform] at hums
    refine completesStore_um hums rfl (ofInt17_low _) ((ofInt17_high _).trans (decide_eq_decide.2 ?_))
    omega

/-! Pushes and calls -/

/-- A word pushed: two stack writes, then SP. -/
theorem Wrote.push16 {s : State} (hl : s.writesLeft = none) (w : Word) :
    ∃ t, Wrote s t true (pushBytes s.cpu.sp w) ∧ s.push16 w = { t with cpu := { s.cpu with sp := s.cpu.sp - 2 } } :=
  ⟨_, Wrote.stackTwo hl (s.cpu.sp - 1) (hiByte w) (s.cpu.sp - 2) (loByte w), rfl⟩

/-- A word pushed, then registers. -/
theorem completesStore_push16 {i : Instr} {s : State} {w : Word} {g : Cpu → Cpu}
    (h : exec i s = .next { s.push16 w with cpu := (g (s.push16 w).cpu).retire (privileged i) }) :
    CompletesStore i s true (pushBytes s.cpu.sp w) (g { s.cpu with sp := s.cpu.sp - 2 }) := by
  intro hl
  obtain ⟨t, hw, ht⟩ := Wrote.push16 hl w
  rw [ht] at h
  exact hw.completes h rfl hl

/-- A byte pushed. -/
theorem completesStore_push8 {i : Instr} {s : State} {v : Byte}
    (h : exec i s = .next { s.push8 v with cpu := (s.push8 v).cpu.retire (privileged i) }) :
    CompletesStore i s true [(s.cpu.sp - 1, v)] { s.cpu with sp := s.cpu.sp - 1 } :=
  fun hl => (Wrote.stackOne hl (s.cpu.sp - 1) v).completes h rfl hl

/-- Settles O10. -/
theorem pushesComplete : Obligations.PushesComplete := fun _ =>
  ⟨completesStore_push8 rfl, completesStore_push8 rfl, completesStore_push16 (g := id) rfl, completesStore_push16 (g := id) rfl,
    completesStore_push16 (g := id) rfl, completesStore_push16 (g := id) rfl, completesStore_push16 (g := id) rfl,
    completesStore_push16 (g := id) rfl⟩

/-- Settles O25. -/
theorem callsComplete : Obligations.CallsComplete := by
  intro s
  refine ⟨fun mn => completesStore_push16 (g := fun c => { c with pc := mn }) rfl, fun x mn hl => ?_⟩
  have hsp2 : s.cpu.sp - 1 - 1 = s.cpu.sp - 2 := by bv_omega
  have hsp3 : s.cpu.sp - 1 - 2 = s.cpu.sp - 3 := by bv_omega
  have hw := Wrote.stackThree hl (s.cpu.sp - 1) s.cpu.xpc (s.cpu.sp - 2) (hiByte s.cpu.pc) (s.cpu.sp - 3) (loByte s.cpu.pc)
  refine hw.completes (c' := ({ s.cpu with sp := s.cpu.sp - 3, xpc := x, pc := mn } : Cpu).retire false) ?_ rfl hl
  show Host.Outcome.next _ = _
  rw [← hsp2, ← hsp3]
  rfl

/-- A software trap is a push, then SU and PC. -/
theorem completesStore_trap {i : Instr} {s : State} {off : Byte} (h : exec i s = (s.trap off).done)
    (hp : privileged i = false) : CompletesStore i s true (pushBytes s.cpu.sp s.cpu.pc) { s.cpu with
      sp := s.cpu.sp - 2
      su := match s.cfg.rev with | .r3000 => s.cpu.su | .r3000A => s.cpu.su.extractLsb' 0 6 ++ 0#2
      pc := (s.cpu.iir &&& 0xFE) ++ off } := by
  intro hl
  obtain ⟨t, hw, ht⟩ := Wrote.push16 hl s.cpu.pc
  have hvector : internalVector s.cpu.iir false off = (s.cpu.iir &&& 0xFE) ++ off := by
    have hhigh : ∀ b : Byte, b.extractLsb' 1 7 ++ bit1 false = b &&& 0xFE := by decide
    exact congrArg (· ++ off) (hhigh s.cpu.iir)
  have hcfg : t.cfg = s.cfg := hw.ma.1
  refine hw.completes ?_ rfl hl
  rw [h, hp, ← hvector]
  show State.done (((s.push16 s.cpu.pc).setSu (s.push16 s.cpu.pc).systemSu).setPc _) = _
  rw [ht]
  simp only [State.systemSu, hcfg]
  cases s.cfg.rev <;> rfl

/-- Settles O27: RST 28 is a trap where BDCR[7] does not make it a NOP. -/
theorem softwareTrapsComplete : Obligations.SoftwareTrapsComplete := by
  intro s
  refine ⟨completesStore_trap rfl rfl, completesStore_trap rfl rfl, completesStore_trap rfl rfl, completesStore_trap rfl rfl,
    fun hb => completesStore_trap ?_ rfl, fun hb => ?_, completesStore_trap rfl rfl⟩
  · show State.done (if _ ∧ bit s.dev.mmu.bdcr 7 = true then _ else _) = _
    simp only [hb, Bool.false_eq_true, and_false, if_false]
    rfl
  · show State.done (if _ ∧ bit s.dev.mmu.bdcr 7 = true then _ else _) = _
    simp only [hb, and_self, if_true]
    rfl

/-! Pops and returns -/

/-- What a word pop reads and leaves. -/
theorem State.pop16_eq (s : State) : ∃ n, s.pop16 = (word (s.peekAfter [s.cpu.sp] (s.cpu.sp + 1)) (s.peek s.cpu.sp),
    (s.withStackRequest n (s.dev.viol.stackLimit ||
      (s.stackChecked && [s.cpu.sp, s.cpu.sp + 1].any (stackOutside s.dev.mmu)))).setSp (s.cpu.sp + 2)) := by
  obtain ⟨n, h⟩ := s.stackRead16_eq s.cpu.sp
  refine ⟨n, ?_⟩
  unfold State.pop16
  dsimp only
  rw [h]

/-- A byte popped, then registers. -/
theorem completesPop_pop8 {i : Instr} {s : State} {g : Byte → Cpu → Cpu}
    (h : exec i s = .next { s.pop8.2 with cpu := (g s.pop8.1 s.pop8.2.cpu).retire (privileged i) }) :
    CompletesPop i s [s.cpu.sp] (g (s.peek s.cpu.sp) { s.cpu with sp := s.cpu.sp + 1 }) := by
  obtain ⟨n, hread, -⟩ := s.stackRead_state s.cpu.sp
  have hpop : s.pop8 = (s.peek s.cpu.sp, (s.stackRead s.cpu.sp).2.setSp (s.cpu.sp + 1)) := rfl
  rw [hpop, hread] at h
  refine ⟨n, h.trans ?_⟩
  simp only [List.any_cons, List.any_nil, Bool.or_false]
  rfl

/-- A word popped, then registers. -/
theorem completesPop_pop16 {i : Instr} {s : State} {g : Word → Cpu → Cpu}
    (h : exec i s = .next { s.pop16.2 with cpu := (g s.pop16.1 s.pop16.2.cpu).retire (privileged i) }) :
    CompletesPop i s [s.cpu.sp, s.cpu.sp + 1]
      (g (word (s.peekAfter [s.cpu.sp] (s.cpu.sp + 1)) (s.peek s.cpu.sp)) { s.cpu with sp := s.cpu.sp + 2 }) := by
  obtain ⟨n, hpop⟩ := s.pop16_eq
  rw [hpop] at h
  exact ⟨n, h⟩

/-- A pair popped into the destination set. -/
theorem completesPop_zz {s : State} (zz : ZZ) : CompletesPop (.popZz zz) s [s.cpu.sp, s.cpu.sp + 1]
    { dstCpu s.cpu (fun x => x.setZz zz (word (s.peekAfter [s.cpu.sp] (s.cpu.sp + 1)) (s.peek s.cpu.sp))) with
      sp := s.cpu.sp + 2 } := by
  have hsp : ∀ (c : Cpu) (k : RegSet → RegSet) (w : Word), dstCpu { c with sp := w } k = { dstCpu c k with sp := w } :=
    fun c k w => by unfold dstCpu; split <;> rfl
  have h := completesPop_pop16 (i := .popZz zz) (s := s) (g := fun w c => dstCpu c fun x => x.setZz zz w) (by
    show ((s.pop16.2.onDst _).done : Result) = _
    rw [State.onDst_state]
    rfl)
  rwa [hsp] at h

/-- Settles O11. -/
theorem popsComplete : Obligations.PopsComplete := by
  intro s
  have hbc := completesPop_zz (s := s) .bc
  have hde := completesPop_zz (s := s) .de
  have hhl := completesPop_zz (s := s) .hl
  have haf := completesPop_zz (s := s) .af
  simp only [RegSet.setZz, RegSet.setBc, RegSet.setDe, RegSet.setHl, RegSet.setAf, hiByte_word, loByte_word] at hbc hde hhl haf
  exact ⟨fun h => completesPop_pop8 (g := fun v c => { c with ip := v }) (s.unlessPriorityRefused_eq h _ _),
    fun h => completesPop_pop8 (g := fun v c => { c with su := v }) (s.unlessPriorityRefused_eq h _ _),
    completesPop_pop16 (g := fun w c => { c with ix := w }) rfl, completesPop_pop16 (g := fun w c => { c with iy := w }) rfl,
    hbc, hde, hhl, haf⟩

/-- RET, by which RET f returns as well. -/
theorem completesPop_popPc {i : Instr} {s : State} (h : exec i s = s.popPc.done) (hp : privileged i = false) :
    CompletesPop i s [s.cpu.sp, s.cpu.sp + 1] { s.cpu with
      sp := s.cpu.sp + 2, pc := word (s.peekAfter [s.cpu.sp] (s.cpu.sp + 1)) (s.peek s.cpu.sp) } :=
  completesPop_pop16 (g := fun w c => { c with pc := w }) (by rw [h, hp]; rfl)

/-- Three stack reads one after the other. -/
theorem StackReads.three (s : State) (a b c : Word) :
    (s.stackRead a).1 = s.peek a ∧ ((s.stackRead a).2.stackRead b).1 = s.peekAfter [a] b ∧
    (((s.stackRead a).2.stackRead b).2.stackRead c).1 = s.peekAfter [a, b] c ∧
    ∃ u, StackReads s u (((s.stackRead a).2.stackRead b).2.stackRead c).2 ([a, b, c].any (stackOutside s.dev.mmu)) := by
  obtain ⟨h1, r1⟩ := (StackReads.nil s).read a
  obtain ⟨h2, r2⟩ := r1.read b
  obtain ⟨h3, r3⟩ := r2.read c
  refine ⟨h1, h2, h3, (((s.memRead a).2.memRead b).2.memRead c).2, ?_⟩
  simpa only [List.any_cons, List.any_nil, Bool.or_false, Bool.false_or, Bool.or_assoc] using r3

/-- A stack read does not see SP. -/
theorem State.stackRead_withCpu (s : State) (c : Cpu) (hxpc : c.xpc = s.cpu.xpc) (hsu : c.su = s.cpu.su) (a : Word) :
    ({ s with cpu := c } : State).stackRead a = ((s.stackRead a).1, { (s.stackRead a).2 with cpu := c }) := by
  have hmode : ({ s with cpu := c } : State).userMode = s.userMode := by simp [State.userMode, hsu]
  have hcheck : ({ s with cpu := c } : State).checkStack a = { s.checkStack a with cpu := c } := by
    simp [State.checkStack, State.stackChecked, hmode]
  have hphys : ({ s.checkStack a with cpu := c } : State).dataPhys a = (s.checkStack a).dataPhys a := by
    simp [State.dataPhys, State.checkStack, hxpc]
  have hdriven : ∀ x p, ({ s.checkStack a with cpu := c } : State).physDriven x p = (s.checkStack a).physDriven x p :=
    fun _ _ => rfl
  unfold State.stackRead State.memRead State.physRead
  rw [hcheck, hphys]
  refine Prod.ext rfl ?_
  dsimp only
  rw [hdriven]
  split <;> rfl

/-- LRET: the program counter, then XPC (`47_control.md` R512). -/
theorem completesPop_lret (s : State) : CompletesPop .lret s [s.cpu.sp, s.cpu.sp + 1, s.cpu.sp + 2] { s.cpu with
    sp := s.cpu.sp + 3
    pc := word (s.peekAfter [s.cpu.sp] (s.cpu.sp + 1)) (s.peek s.cpu.sp)
    xpc := s.peekAfter [s.cpu.sp, s.cpu.sp + 1] (s.cpu.sp + 2) } := by
  obtain ⟨h1, h2, h3, u, hr⟩ := StackReads.three s s.cpu.sp (s.cpu.sp + 1) (s.cpu.sp + 2)
  have hcpu : ((s.stackRead s.cpu.sp).2.stackRead (s.cpu.sp + 1)).2.cpu = s.cpu :=
    (s.stackRead16_data s.cpu.sp).1.cpu
  have hpc : s.popPc = { ((s.stackRead s.cpu.sp).2.stackRead (s.cpu.sp + 1)).2 with cpu := { s.cpu with
      sp := s.cpu.sp + 2, pc := word (s.peekAfter [s.cpu.sp] (s.cpu.sp + 1)) (s.peek s.cpu.sp) } } := by
    show ({ ((s.stackRead s.cpu.sp).2.stackRead (s.cpu.sp + 1)).2 with
      cpu := { ((s.stackRead s.cpu.sp).2.stackRead (s.cpu.sp + 1)).2.cpu with
        sp := s.cpu.sp + 2
        pc := word ((s.stackRead s.cpu.sp).2.stackRead (s.cpu.sp + 1)).1 (s.stackRead s.cpu.sp).1 } } : State) = _
    rw [h1, h2, hcpu]
  have hread := State.stackRead_withCpu ((s.stackRead s.cpu.sp).2.stackRead (s.cpu.sp + 1)).2 { s.cpu with
      sp := s.cpu.sp + 2, pc := word (s.peekAfter [s.cpu.sp] (s.cpu.sp + 1)) (s.peek s.cpu.sp) }
    (by rw [hcpu]) (by rw [hcpu]) (s.cpu.sp + 2)
  have hsp : s.cpu.sp + 2 + 1 = s.cpu.sp + 3 := by bv_omega
  refine hr.completes (c' := ({ s.cpu with
    sp := s.cpu.sp + 3
    pc := word (s.peekAfter [s.cpu.sp] (s.cpu.sp + 1)) (s.peek s.cpu.sp)
    xpc := s.peekAfter [s.cpu.sp, s.cpu.sp + 1] (s.cpu.sp + 2) } : Cpu).retire false) ?_ rfl rfl
  show State.done ((s.popPc.stackRead s.popPc.cpu.sp).2.setSp (s.popPc.cpu.sp + 1) |>.setXpc (s.popPc.stackRead s.popPc.cpu.sp).1) = _
  rw [hpc]
  dsimp only
  rw [hread, h3, hsp]
  rfl

/-- RETI: IP, then the program counter (`47_control.md` R515). -/
theorem completesPop_reti {s : State} (h : s.priorityRefused = false) :
    CompletesPop .reti s [s.cpu.sp, s.cpu.sp + 1, s.cpu.sp + 2] { s.cpu with
      sp := s.cpu.sp + 3
      ip := s.peek s.cpu.sp
      pc := word (s.peekAfter [s.cpu.sp, s.cpu.sp + 1] (s.cpu.sp + 2)) (s.peekAfter [s.cpu.sp] (s.cpu.sp + 1)) } := by
  obtain ⟨h1, h2, h3, u, hr⟩ := StackReads.three s s.cpu.sp (s.cpu.sp + 1) (s.cpu.sp + 2)
  have hcpu : (s.stackRead s.cpu.sp).2.cpu = s.cpu := (s.stackRead_data s.cpu.sp).1.cpu
  have hcpu2 : ((s.stackRead s.cpu.sp).2.stackRead (s.cpu.sp + 1)).2.cpu = s.cpu :=
    (s.stackRead16_data s.cpu.sp).1.cpu
  have hip : s.pop8.2.setIp s.pop8.1 = { (s.stackRead s.cpu.sp).2 with
      cpu := { s.cpu with sp := s.cpu.sp + 1, ip := s.peek s.cpu.sp } } := by
    show ({ (s.stackRead s.cpu.sp).2 with
      cpu := { (s.stackRead s.cpu.sp).2.cpu with sp := s.cpu.sp + 1, ip := (s.stackRead s.cpu.sp).1 } } : State) = _
    rw [h1, hcpu]
  have hread := State.stackRead_withCpu (s.stackRead s.cpu.sp).2 { s.cpu with sp := s.cpu.sp + 1, ip := s.peek s.cpu.sp }
    (by rw [hcpu]) (by rw [hcpu]) (s.cpu.sp + 1)
  have hread2 := State.stackRead_withCpu ((s.stackRead s.cpu.sp).2.stackRead (s.cpu.sp + 1)).2
    { s.cpu with sp := s.cpu.sp + 1, ip := s.peek s.cpu.sp } (by rw [hcpu2]) (by rw [hcpu2]) (s.cpu.sp + 2)
  have hsp : s.cpu.sp + 1 + 1 = s.cpu.sp + 2 := by bv_omega
  have hsp3 : s.cpu.sp + 1 + 2 = s.cpu.sp + 3 := by bv_omega
  have hpop16 : (s.pop8.2.setIp s.pop8.1).stackRead16 (s.cpu.sp + 1) =
      (word (s.peekAfter [s.cpu.sp, s.cpu.sp + 1] (s.cpu.sp + 2)) (s.peekAfter [s.cpu.sp] (s.cpu.sp + 1)),
        { (((s.stackRead s.cpu.sp).2.stackRead (s.cpu.sp + 1)).2.stackRead (s.cpu.sp + 2)).2 with
          cpu := { s.cpu with sp := s.cpu.sp + 1, ip := s.peek s.cpu.sp } }) := by
    unfold State.stackRead16
    rw [hip, hread, hsp]
    dsimp only
    rw [hread2, h2, h3]
  refine hr.completes (c' := ({ s.cpu with
      sp := s.cpu.sp + 3
      ip := s.peek s.cpu.sp
      pc := word (s.peekAfter [s.cpu.sp, s.cpu.sp + 1] (s.cpu.sp + 2)) (s.peekAfter [s.cpu.sp] (s.cpu.sp + 1)) } : Cpu).retire
        true) ?_ rfl rfl
  have hexec : exec .reti s = s.popIpPc.doneHeld := s.unlessPriorityRefused_eq h _ _
  rw [hexec]
  show State.doneHeld ((((s.pop8.2.setIp s.pop8.1).stackRead16 (s.cpu.sp + 1)).2.setSp (s.cpu.sp + 1 + 2)).setPc
    ((s.pop8.2.setIp s.pop8.1).stackRead16 (s.cpu.sp + 1)).1) = _
  rw [hpop16, hsp3]
  rfl

/-- Settles O26. -/
theorem returnsComplete : Obligations.ReturnsComplete := by
  intro s
  refine ⟨completesPop_popPc rfl rfl, fun f => ?_, completesPop_lret s, fun h => completesPop_reti h⟩
  split
  · rename_i hf
    exact completesPop_popPc ((exec_retF f s).trans (by rw [if_pos hf])) rfl
  · rename_i hf
    exact retF_completes_of_not_condHolds f s (by simpa using hf)

end Sys2Proof.Machine
end

section
/-! What the stack-relative instructions, the exchanges with the top of the stack and the LDP instructions leave. -/
namespace Sys2Proof.Machine

/-! Relative to the stack -/

/-- A word read from the stack, then registers. -/
theorem completesPop_stackRead16 {i : Instr} {s : State} {a : Word} {g : Word → Cpu → Cpu}
    (h : exec i s = .next { (s.stackRead16 a).2 with
      cpu := (g (s.stackRead16 a).1 (s.stackRead16 a).2.cpu).retire (privileged i) }) :
    CompletesPop i s [a, a + 1] (g (word (s.peekAfter [a] (a + 1)) (s.peek a)) s.cpu) := by
  obtain ⟨n, hread⟩ := s.stackRead16_eq a
  rw [hread] at h
  exact ⟨n, h⟩

/-- The stack-relative loads. -/
theorem completesPop_stackLoad {s : State} {i : Instr} {x : WordDst} {n : Byte} (h : stackLoad i = some (x, n)) :
    CompletesPop i s [s.eaSp n, s.eaSp n + 1]
      (x.write s.cpu (word (s.peekAfter [s.eaSp n] (s.eaSp n + 1)) (s.peek (s.eaSp n)))) := by
  cases i <;> cases h
  case ldHlAtSpN =>
    refine completesPop_stackRead16 (a := s.eaSp n) (g := fun w c => WordDst.write c w (.ss .hl)) ?_
    show State.done ((s.stackRead16 (s.eaSp n)).2.onDst _) = _
    rw [State.onDst_state]
    rfl
  case ldIxAtSpN => exact completesPop_stackRead16 (a := s.eaSp n) (g := fun w c => { c with ix := w }) rfl
  case ldIyAtSpN => exact completesPop_stackRead16 (a := s.eaSp n) (g := fun w c => { c with iy := w }) rfl

/-- Settles O5. -/
theorem stackRelativeComplete : Obligations.StackRelativeComplete := by
  intro s i
  refine ⟨fun x n h => completesPop_stackLoad h, fun n w h hl => ?_⟩
  have hw := Wrote.stackTwo hl (s.cpu.sp + n.setWidth 16) (loByte w) (s.cpu.sp + n.setWidth 16 + 1) (hiByte w)
  cases i <;> cases h
  all_goals exact hw.completes rfl rfl hl

/-- The word on the stack read and replaced, then registers. -/
theorem completesStore_exchange {i : Instr} {s : State} {w : Word} {g : Word → Cpu → Cpu}
    (h : exec i s = .next { (s.stackRead16 s.cpu.sp).2.stackWrite16 s.cpu.sp w with
      cpu := (g (s.stackRead16 s.cpu.sp).1 ((s.stackRead16 s.cpu.sp).2.stackWrite16 s.cpu.sp w).cpu).retire (privileged i) }) :
    CompletesStore i s true (wordBytes s.cpu.sp w)
      (g (word (s.peekAfter [s.cpu.sp] (s.cpu.sp + 1)) (s.peek s.cpu.sp)) s.cpu) := by
  intro hl
  obtain ⟨n, hread⟩ := s.stackRead16_eq s.cpu.sp
  rw [hread] at h
  have hw := Wrote.stackTwo (s := s.withStackRequest n (s.dev.viol.stackLimit ||
    (s.stackChecked && [s.cpu.sp, s.cpu.sp + 1].any (stackOutside s.dev.mmu)))) hl s.cpu.sp (loByte w) (s.cpu.sp + 1) (hiByte w)
  exact (Wrote.ofStackReads (ws := wordBytes s.cpu.sp w) hw).completes h rfl hl

/-- Settles O9. -/
theorem stackExchangesComplete : Obligations.StackExchangesComplete := by
  intro s
  refine ⟨completesStore_exchange (g := fun w c => WordDst.write c w (.ss .hl)) ?_,
    completesStore_exchange (g := fun w c => { c with ix := w }) rfl,
    completesStore_exchange (g := fun w c => { c with iy := w }) rfl⟩
  show State.done (((s.stackRead16 s.cpu.sp).2.stackWrite16 s.cpu.sp s.hl).onDst _) = _
  rw [State.onDst_state]
  rfl

/-! LDP -/

/-- A physical read leaves the state but for the count of free values, and where a device answers leaves it whole. -/
theorem State.physRead_free (s : State) (x : Bool) (pa : Phys) :
    ∃ n, (s.physRead x pa).2 = { s with dev := { s.dev with free := n } } := by
  rcases s.physRead_spec x pa with h | h
  · exact ⟨s.dev.free, h⟩
  · exact ⟨_, h⟩

/-- What an LDP load reads and leaves. -/
theorem State.ldpRead_eq (s : State) (p : Word) : ∃ n, (s.ldpRead p).2 = { s with dev := { s.dev with free := n } } ∧
    ((∀ q ∈ [p, p + 1], s.physDriven false (ldpPhys s.a q) = true) → (s.ldpRead p).1 =
      word (cellRead s.mem (physCell s.cfg s.dev.mmu false (ldpPhys s.a (p + 1))))
        (cellRead s.mem (physCell s.cfg s.dev.mmu false (ldpPhys s.a p)))) := by
  obtain ⟨n, hn⟩ := s.physRead_free false (ldpPhys s.a p)
  obtain ⟨m, hm⟩ := State.physRead_free { s with dev := { s.dev with free := n } } false (ldpPhys s.a (p + 1))
  refine ⟨m, ?_, fun hd => ?_⟩
  · show ((s.physRead false (ldpPhys s.a p)).2.physRead false (ldpPhys s.a (p + 1))).2 = _
    rw [hn, hm]
  · show word ((s.physRead false (ldpPhys s.a p)).2.physByte false (ldpPhys s.a (p + 1))) (s.physByte false (ldpPhys s.a p)) = _
    have hlo := hd p (by simp)
    have hhi : ({ s with dev := { s.dev with free := n } } : State).physDriven false (ldpPhys s.a (p + 1)) = true :=
      hd (p + 1) (by simp)
    rw [hn]
    unfold State.physByte
    rw [if_pos hlo, if_pos hhi]

/-- What two physical writes leave, where no reset falls inside them. -/
theorem State.ldpWrite_spec {s : State} (hl : s.writesLeft = none) (p w : Word) :
    (s.ldpWrite p w).cpu = s.cpu ∧ (s.ldpWrite p w).cfg = s.cfg ∧ (s.ldpWrite p w).inbox = s.inbox ∧
    (s.ldpWrite p w).writesLeft = none ∧ SameDevicesButRequests s (s.ldpWrite p w) ∧
    (s.ldpWrite p w).mem = writeTargets (writeTargets s.mem (loByte w) (s.physTargets false (ldpPhys s.a p))) (hiByte w)
      (s.physTargets false (ldpPhys s.a (p + 1))) := by
  have hgo : s.writesGoOn = true := State.writesGoOn_of_none hl
  have hleft : (s.physWrite false (ldpPhys s.a p) (loByte w)).writesLeft = none := State.oneWriteLess_of_none hl
  have hgo' := State.writesGoOn_of_none hleft
  have hdev : (s.physWrite false (ldpPhys s.a p) (loByte w)).dev = s.noteWrite (ldpPhys s.a p) := by
    rw [State.physWrite_dev, if_pos hgo]
  have hmode : (s.physWrite false (ldpPhys s.a p) (loByte w)).userMode = s.userMode := by
    simp only [State.userMode, Dev.edmf, hdev, State.physWrite_cfg, State.physWrite_cpu, State.noteWrite_user]
    rfl
  have htargets : (s.physWrite false (ldpPhys s.a p) (loByte w)).physTargets false (ldpPhys s.a (p + 1)) =
      s.physTargets false (ldpPhys s.a (p + 1)) := by
    simp only [State.physTargets, State.writePulse, State.physProtected, State.protectActive, hmode, hdev,
      State.physWrite_cfg, State.noteWrite_mmu]
    rfl
  refine ⟨rfl, rfl, rfl, State.oneWriteLess_of_none hleft, ?_, ?_⟩
  · unfold SameDevicesButRequests State.ldpWrite
    rw [State.physWrite_dev, if_pos hgo']
    unfold State.noteWrite
    rw [hdev]
    rfl
  · show (if _ then writeTargets (if _ then _ else _) _ _ else _) = _
    rw [if_pos hgo', htargets, if_pos hgo]

/-- Two writes leave every byte at a cell neither reaches. -/
theorem cellRead_writeTargets_two {m : List Host.Cell} {v w : Byte} {ts us : List (Nat × Bool)} {k : Nat}
    (h : k ∉ ts.map Prod.fst ++ us.map Prod.fst) : cellRead (writeTargets (writeTargets m v ts) w us) k = cellRead m k := by
  rw [List.mem_append, not_or] at h
  rw [cellRead_writeTargets_other _ _ _ h.2, cellRead_writeTargets_other _ _ _ h.1]

/-- Two writes that reach different cells are both read back. -/
theorem cellRead_writeTargets_both {m : List Host.Cell} {v w : Byte} {ts us : List (Nat × Bool)} (hm : Memory.wf m = true)
    (ht : ∀ c ∈ ts, c.1 < cellCount) (hu : ∀ c ∈ us, c.1 < cellCount) (hn : (ts.map Prod.fst ++ us.map Prod.fst).Nodup) :
    (∀ c ∈ ts, cellRead (writeTargets (writeTargets m v ts) w us) c.1 = if c.2 then v else cellRead m c.1) ∧
    (∀ c ∈ us, cellRead (writeTargets (writeTargets m v ts) w us) c.1 = if c.2 then w else cellRead m c.1) := by
  obtain ⟨hnt, hnu, hdisj⟩ := List.nodup_append.1 hn
  refine ⟨fun c hc => ?_, fun c hc => ?_⟩
  · have hne : c.1 ∉ us.map Prod.fst := fun h => hdisj _ (List.mem_map_of_mem hc) _ h rfl
    rw [cellRead_writeTargets_other _ _ _ hne, cellRead_writeTargets v ts hm ht hnt c hc]
  · have hne : c.1 ∉ ts.map Prod.fst := fun h => hdisj _ h _ (List.mem_map_of_mem hc) rfl
    rw [cellRead_writeTargets w us (wf_writeTargets _ _ hm ht) hu hnu c hc, cellRead_writeTargets_other _ _ _ hne]

/-- Every LDP load is `State.ldpRead` into its register. -/
theorem exec_ldpLoad {s : State} {i : Instr} {x : LdpDst} {p : Word} (h : ldpLoad s i = some (x, p)) :
    exec i s = .next { (s.ldpRead p).2 with
      cpu := (x.write (s.ldpRead p).2.cpu (s.ldpRead p).1).retire (privileged i) } := by
  cases i <;> cases h
  all_goals rfl

/-- Every LDP store is `State.ldpWrite`. -/
theorem exec_ldpStore {s : State} {i : Instr} {p w : Word} (h : ldpStore s i = some (p, w)) :
    privileged i = false ∧ exec i s = (s.ldpWrite p w).done := by
  cases i <;> cases h
  all_goals exact ⟨rfl, rfl⟩

/-- Settles O6. -/
theorem ldpComplete : Obligations.LdpComplete := by
  intro s i
  refine ⟨fun x p h => ?_, fun p w h hl => ?_⟩
  · obtain ⟨n, hstate, hword⟩ := s.ldpRead_eq p
    have hexec := exec_ldpLoad h
    rw [hstate] at hexec
    exact ⟨_, n, hexec, hword⟩
  · obtain ⟨hp, hexec⟩ := exec_ldpStore h
    obtain ⟨hcpu, hcfg, hinbox, hleft, hdev, hmem⟩ := State.ldpWrite_spec hl p w
    refine ⟨(s.ldpWrite p w).retired, hexec, ?_, hcfg, hinbox, hleft, hdev, fun k hk => ?_, fun hm hn y hy => ?_⟩
    · rw [hp, ← hcpu]; rfl
    · show cellRead (s.ldpWrite p w).mem k = _
      rw [hmem]
      exact cellRead_writeTargets_two hk
    · obtain ⟨hlo, hhi⟩ := cellRead_writeTargets_both (v := loByte w) (w := hiByte w) hm (s.physTargets_lt false (ldpPhys s.a p))
        (s.physTargets_lt false (ldpPhys s.a (p + 1))) hn
      show ∀ c ∈ s.physTargets false (ldpPhys s.a y.1), cellRead (s.ldpWrite p w).mem c.1 = _
      rw [hmem]
      simp only [wordBytes, List.mem_cons, List.not_mem_nil, or_false] at hy
      rcases hy with rfl | rfl
      · exact hlo
      · exact hhi

end Sys2Proof.Machine
end

section
/-! The step, the fetch, and where an access goes: segments, translation, protection, the stack limits. -/
namespace Sys2Proof.Machine

/-! Fetching -/

/-- A fetch does not see the plans of the outside world. -/
theorem State.fetchBytes_withInbox (s : State) (l : List (Nat × HostEvent)) (n : Nat) (a : Word) :
    ({ s with inbox := l } : State).fetchBytes n a =
      ((s.fetchBytes n a).1, { (s.fetchBytes n a).2 with inbox := l }) := by
  induction n generalizing s a with
  | zero => rfl
  | succ n ih =>
    have hread : ({ s with inbox := l } : State).fetchRead a = ((s.fetchRead a).1, { (s.fetchRead a).2 with inbox := l }) := by
      have hdriven : ∀ x p, ({ s with inbox := l } : State).physDriven x p = s.physDriven x p := fun _ _ => rfl
      unfold State.fetchRead State.physRead
      refine Prod.ext rfl ?_
      dsimp only
      rw [hdriven]
      show (if s.physDriven (inXpcWindow s.dev.mmu a) (s.fetchPhys a) then _ else _) = _
      split <;> rfl
    unfold State.fetchBytes
    rw [hread]
    dsimp only
    rw [ih]

/-- A fetch leaves the state but for the count of free values. -/
theorem State.fetchBytes_free (s : State) (n : Nat) (a : Word) :
    ∃ k, (s.fetchBytes n a).2 = { s with dev := { s.dev with free := k } } := by
  induction n generalizing s a with
  | zero => exact ⟨s.dev.free, rfl⟩
  | succ n ih =>
    obtain ⟨j, hj⟩ := s.physRead_free (inXpcWindow s.dev.mmu a) (s.fetchPhys a)
    obtain ⟨k, hk⟩ := ih { s with dev := { s.dev with free := j } } (a + 1)
    refine ⟨k, ?_⟩
    show ((s.fetchRead a).2.fetchBytes n (a + 1)).2 = _
    rw [show (s.fetchRead a).2 = _ from hj, hk]

/-- Where memory answers, a fetch gives the cells' bytes and leaves the state whole. -/
theorem State.fetchBytes_driven (s : State) (n : Nat) (a : Word)
    (h : ∀ k < n, s.physDriven (inXpcWindow s.dev.mmu (a + BitVec.ofNat 16 k)) (s.fetchPhys (a + BitVec.ofNat 16 k)) = true) :
    s.fetchBytes n a = ((List.range n).map fun k => cellRead s.mem (s.fetchCell (a + BitVec.ofNat 16 k)), s) := by
  induction n generalizing a with
  | zero => rfl
  | succ n ih =>
    have hzero : a + BitVec.ofNat 16 0 = a := BitVec.add_zero a
    have hnext : ∀ k, a + 1 + BitVec.ofNat 16 k = a + BitVec.ofNat 16 (k + 1) := fun k => by
      rw [BitVec.add_assoc]; congr 1; apply BitVec.eq_of_toNat_eq; simp [Nat.add_comm]
    have hfirst := h 0 (Nat.succ_pos n)
    rw [hzero] at hfirst
    have hread : s.fetchRead a = (cellRead s.mem (s.fetchCell a), s) := by
      unfold State.fetchRead State.physRead State.physByte
      rw [if_pos hfirst, if_pos hfirst]
      rfl
    unfold State.fetchBytes
    rw [hread]
    dsimp only
    rw [ih (a + 1) fun k hk => by rw [hnext]; exact h (k + 1) (Nat.succ_lt_succ hk)]
    simp only [List.range_succ_eq_map, List.map_cons, List.map_map, hnext, hzero]
    rfl

/-- Settles O35. -/
theorem fetchedBytes : Obligations.FetchedBytes := fun s h =>
  s.fetchBytes_driven 4 s.cpu.pc fun k hk => h ⟨k, hk⟩

/-- Where no event is due, a step is a step of the CPU. -/
theorem step_of_no_event {s : State} (h : ∀ e rest, s.inbox ≠ (0, e) :: rest) :
    step s = ({ s with inbox := laterInbox s.inbox } : State).cpuStep := by
  unfold step
  split
  · rename_i e rest hi
    exact absurd hi (h e rest)
  · rfl

/-- Outside the bootstrap, and where a boundary takes no interrupt and no fetch is intercepted, it runs an instruction. -/
theorem State.cpuStep_runInstr {s : State} (hb : s.dev.boot.active = false)
    (hd : s.atBoundary = true → s.interruptDue = none ∧ s.bootIntercepts = false) : s.cpuStep = s.runInstr := by
  unfold State.cpuStep
  rw [if_neg (by simp [hb])]
  split
  · rename_i hat
    obtain ⟨hint, hfetch⟩ := hd hat
    simp only [hint, hfetch, Bool.false_eq_true, if_false]
  · rfl

theorem State.atBoundary_eq (s : State) : s.atBoundary = decide (s.cpu.altd = false ∧ s.cpu.iospace = .memory) := by
  unfold State.atBoundary
  rw [Bool.decide_and]
  cases s.cpu.altd <;> rfl

/-- Settles O34. -/
theorem stepRunsInstr : Obligations.StepRunsInstr := by
  intro s hi hb hd
  have hstep : step s = ({ s with inbox := laterInbox s.inbox } : State).runInstr :=
    (step_of_no_event hi).trans (State.cpuStep_runInstr (s := { s with inbox := laterInbox s.inbox }) hb hd)
  obtain ⟨n, hn⟩ := s.fetchBytes_free maxLength s.cpu.pc
  have hfetched : ({ s with inbox := laterInbox s.inbox } : State).fetched =
      (s.fetched.1, { s with inbox := laterInbox s.inbox, dev := { s.dev with free := n } }) := by
    refine (s.fetchBytes_withInbox _ _ _).trans ?_
    rw [hn]; rfl
  refine ⟨fun i rest hdec => ⟨n, ?_⟩, fun page op hdec => ?_⟩
  · rw [hstep]
    unfold State.runInstr State.fetchInstr
    rw [hfetched]
    dsimp only
    rw [hdec]
    unfold State.advance
    simp only [State.atBoundary_eq, decide_eq_true_eq]
    rfl
  · rw [hstep]
    unfold State.runInstr State.fetchInstr
    rw [hfetched]
    dsimp only
    rw [hdec]
    rfl

/-! Segments and translation -/

theorem topNibble_eq (a : Word) : topNibble a = a.toNat / 4096 := by
  have ha := a.isLt
  unfold topNibble
  rw [BitVec.extractLsb'_toNat, Nat.shiftRight_eq_div_pow]
  omega

/-- Settles O36. -/
theorem segmentOfAddress : Obligations.SegmentOfAddress := by
  intro m a
  have hs := m.segsize.isLt
  have hhigh : (m.segsize.extractLsb' 4 4).toNat = m.segsize.toNat / 16 := by
    rw [BitVec.extractLsb'_toNat, Nat.shiftRight_eq_div_pow]; omega
  have hlow : (m.segsize.extractLsb' 0 4).toNat = m.segsize.toNat % 16 := by
    rw [BitVec.extractLsb'_toNat, Nat.shiftRight_zero]
  unfold segOf
  rw [topNibble_eq, hhigh, hlow]

/-- The field of RAMSR's size code. -/
theorem field2_toNat {w : Nat} (x : BitVec w) (n : BitVec 2) : field2 x 0 = n ↔ x.toNat % 4 = n.toNat := by
  rw [← BitVec.toNat_inj, field2, BitVec.extractLsb'_toNat, Nat.shiftRight_zero]

/-- The top bits of two values agree where the quotients do. -/
theorem extract_eq_iff {k : Nat} (a : Word) (r : Byte) (i j : Nat) (ha : a.toNat < 2 ^ (i + k)) (hr : r.toNat < 2 ^ (j + k)) :
    a.extractLsb' i k = r.extractLsb' j k ↔ a.toNat / 2 ^ i = r.toNat / 2 ^ j := by
  have hlt : ∀ {x i : Nat}, x < 2 ^ (i + k) → x / 2 ^ i < 2 ^ k := fun h =>
    Nat.div_lt_of_lt_mul (by rwa [← Nat.pow_add])
  rw [← BitVec.toNat_inj, BitVec.extractLsb'_toNat, BitVec.extractLsb'_toNat, Nat.shiftRight_eq_div_pow,
    Nat.shiftRight_eq_div_pow, Nat.mod_eq_of_lt (hlt ha), Nat.mod_eq_of_lt (hlt hr)]

/-- The RAM segment, by the size code and the upper bits of the address (`20_memory.md` R62). -/
theorem ramSegMatch_iff (rev : Rev) (m : Mmu) (a : Word) : ramSegMatch rev m a = true ↔
    rev = .r3000A ∧ (m.ramsr.toNat % 4 = 1 ∧ a.toNat / 1024 = m.ramsr.toNat / 4 ∨
      m.ramsr.toNat % 4 = 2 ∧ a.toNat / 2048 = m.ramsr.toNat / 8 ∨
      m.ramsr.toNat % 4 = 3 ∧ a.toNat / 4096 = m.ramsr.toNat / 16) := by
  cases rev with
  | r3000 => simp [ramSegMatch]
  | r3000A =>
    have h1 := extract_eq_iff (k := 6) a m.ramsr 10 2 a.isLt m.ramsr.isLt
    have h2 := extract_eq_iff (k := 5) a m.ramsr 11 3 a.isLt m.ramsr.isLt
    have h3 := extract_eq_iff (k := 4) a m.ramsr 12 4 a.isLt m.ramsr.isLt
    have f1 := field2_toNat m.ramsr 1
    have f2 := field2_toNat m.ramsr 2
    have f3 := field2_toNat m.ramsr 3
    simp only [BitVec.reduceToNat, Nat.reducePow] at f1 f2 f3 h1 h2 h3
    unfold ramSegMatch
    simp only [f1, f2, f3, true_and]
    split
    · rename_i hc
      simp [hc, h1]
    · split
      · rename_i hc
        simp [hc, h2]
      · split
        · rename_i hc
          simp [hc, h3]
        · simp_all

/-- The bits of the inversion of A16 and A19. -/
theorem inversion_bit (x y : Bool) (b : Nat) :
    ((if x then 0x10000 else 0) ||| (if y then 0x80000 else 0) : Phys).getLsbD b =
      (decide (b = 16 ∧ x = true) != decide (b = 19 ∧ y = true)) := by
  have h16 : (0x10000 : Phys).getLsbD b = decide (b = 16) := by
    rw [show (0x10000 : Phys) = BitVec.twoPow 20 16 from rfl, BitVec.getLsbD_twoPow]
    by_cases h : b = 16 <;> simp [h, eq_comm]
  have h19 : (0x80000 : Phys).getLsbD b = decide (b = 19) := by
    rw [show (0x80000 : Phys) = BitVec.twoPow 20 19 from rfl, BitVec.getLsbD_twoPow]
    by_cases h : b = 19 <;> simp [h, eq_comm]
  have h0 : (0 : Phys).getLsbD b = false := BitVec.getLsbD_zero
  rw [BitVec.getLsbD_or]
  cases x <;> cases y <;> simp only [Bool.false_eq_true, if_true, if_false, h16, h19, h0, and_true, and_false]
  · rfl
  · by_cases h : b = 19 <;> simp [h]
  · by_cases h : b = 16 <;> simp [h]
  · by_cases h : b = 16 <;> by_cases h' : b = 19 <;> simp [h, h']

/-- The address before the inversions. -/
theorem segmentSum_eq (a : Word) (base : Byte) :
    a.setWidth 20 + (base.setWidth 20 <<< 12) = BitVec.ofNat 20 (a.toNat + base.toNat * 4096) := by
  apply BitVec.eq_of_toNat_eq
  have ha := a.isLt
  have hb := base.isLt
  simp only [BitVec.toNat_add, BitVec.toNat_setWidth, BitVec.toNat_shiftLeft, Nat.shiftLeft_eq, BitVec.toNat_ofNat]
  omega

/-- Settles O37. -/
theorem translationFormula : Obligations.TranslationFormula := by
  intro rev m xpc a k seg base code ram on flip16 flip19 pa b
  have hon : inversionApplies rev m a k = true ↔ on := by
    unfold inversionApplies
    rw [Bool.or_eq_true, Bool.or_eq_true, ramSegMatch_iff, Bool.not_eq_true', decide_eq_true_eq, or_assoc]
    rfl
  have hbase : segBase m xpc seg = base := by
    show segBase m xpc seg = match seg with | .root => 0 | .data => m.dataseg | .stack => m.stackseg | .xpc => xpc
    cases seg <;> rfl
  have hinv : ∀ b, (segInversion m seg).getLsbD b =
      (decide (b = 16 ∧ (seg = .root ∧ m.mmidr.getLsbD 0 = true ∨ seg = .data ∧ m.mmidr.getLsbD 2 = true)) !=
        decide (b = 19 ∧ (seg = .root ∧ m.mmidr.getLsbD 1 = true ∨ seg = .data ∧ m.mmidr.getLsbD 3 = true))) := fun b => by
    cases hs : seg with
    | root =>
      simp only [true_and, reduceCtorEq, false_and, or_false]
      exact inversion_bit (bit m.mmidr 0) (bit m.mmidr 1) b
    | data =>
      simp only [true_and, reduceCtorEq, false_and, false_or]
      exact inversion_bit (bit m.mmidr 2) (bit m.mmidr 3) b
    | stack => simp [segInversion]
    | xpc => simp [segInversion]
  have htranslate : translate rev m xpc a k = if inversionApplies rev m a k then pa ^^^ segInversion m seg else pa := by
    unfold translate
    dsimp only
    rw [segmentSum_eq, show segBase m xpc (segOf m a) = base from hbase]
  rw [htranslate]
  by_cases h : on
  · rw [if_pos (hon.2 h), BitVec.getLsbD_xor, hinv]
    simp only [flip16, flip19, h, true_and]
    exact (Bool.xor_assoc _ _ _).symm
  · rw [if_neg (fun hc => h (hon.1 hc))]
    simp [flip16, flip19, h]

end Sys2Proof.Machine
end

section
/-! What the decoder answers is well formed and stands at the bytes it was read from (`30_encoding.md` R120 to R135): soundness
of a form, of a row by the shape of its mask, of a page, and then of `decode`. -/
namespace Sys2Proof
open Sys2Proof.Machine

/-! The codes of the selects, the converse of `ofCode_code` -/

theorem SS.code_ofCode : ∀ c, (SS.ofCode c).code = c := by decide
theorem ZZ.code_ofCode : ∀ c, (ZZ.ofCode c).code = c := by decide
theorem XX.code_ofCode : ∀ c, (XX.ofCode c).code = c := by decide
theorem YY.code_ofCode : ∀ c, (YY.ofCode c).code = c := by decide
theorem DDa.code_ofCode : ∀ c r, DDa.ofCode c = some r → r.code = c := by decide
theorem RstV.code_ofCode : ∀ c r, RstV.ofCode c = some r → r.code = c := by decide

/-! An opcode byte is the fixed bits of its row's pattern around its fields -/

/-- A field between fixed bits. -/
theorem append_field {h k l : Nat} {x : BitVec (h + k + l)} {hi : BitVec h} {lo : BitVec l}
    (hx : x &&& (BitVec.allOnes h ++ 0#k ++ BitVec.allOnes l) = hi ++ 0#k ++ lo) : hi ++ x.extractLsb' l k ++ lo = x := by
  apply BitVec.eq_of_getLsbD_eq
  intro i hi'
  have hbit := congrArg (·.getLsbD i) hx
  simp only [BitVec.getLsbD_append, BitVec.getLsbD_and, BitVec.getLsbD_extractLsb', BitVec.getLsbD_zero,
    BitVec.getLsbD_allOnes] at hbit ⊢
  by_cases hl : i < l
  · simpa [hl] using hbit.symm
  · by_cases hk : i - l < k
    · simp [hl, hk, Nat.add_sub_cancel' (Nat.le_of_not_lt hl)]
    · have hh : i - l - k < h := by omega
      simpa [hl, hk, hh] using hbit.symm

/-- A field below fixed bits. -/
theorem append_lowField {h k : Nat} {x : BitVec (h + k)} {hi : BitVec h} (hx : x &&& (BitVec.allOnes h ++ 0#k) = hi ++ 0#k) :
    hi ++ x.extractLsb' 0 k = x := by
  apply BitVec.eq_of_getLsbD_eq
  intro i hi'
  have hbit := congrArg (·.getLsbD i) hx
  simp only [BitVec.getLsbD_append, BitVec.getLsbD_and, BitVec.getLsbD_extractLsb', BitVec.getLsbD_zero,
    BitVec.getLsbD_allOnes] at hbit ⊢
  by_cases hk : i < k
  · simp [hk]
  · have hh : i - k < h := by omega
    simpa [hk, hh] using hbit.symm

/-- Two fields of three bits below two fixed ones. -/
theorem append_twoFields {x : Byte} {hi : BitVec 2} (hx : x &&& 0xC0 = hi ++ 0#6) : hi ++ fld3 x 3 ++ fld3 x 0 = x := by
  rw [← append_lowField (h := 2) (k := 6) hx]
  apply BitVec.eq_of_getLsbD_eq
  intro i hi'
  simp only [fld3, BitVec.getLsbD_append, BitVec.getLsbD_extractLsb']
  by_cases h3 : i < 3
  · have h6 : i < 6 := by omega
    simp [h3, h6]
  · by_cases h6 : i < 6
    · have hmid : i - 3 < 3 := by omega
      have hsum : 3 + (i - 3) = i := by omega
      simp [h3, h6, hmid, hsum]
    · have hhigh : ¬ i - 3 < 3 := by omega
      have hsub : i - 3 - 3 = i - 6 := by omega
      simp [h3, h6, hhigh, hsub]

/-! Forms -/

/-- What the encoder gives an instruction that both revisions have. -/
def Encodes (ops : OpcodeMap) (i : Instr) (bs : List Byte) : Prop := (i.only3000A || i.isLdEE) = false ∧ encode ops i = bs

/-- An instruction that stands at bytes: well formed, and encoded by them. -/
def StandsAt (rev : Rev) (ops : OpcodeMap) (i : Instr) (bs : List Byte) : Prop := WellFormed rev ops i = true ∧ encode ops i = bs

theorem Encodes.standsAt {rev : Rev} {ops : OpcodeMap} {i : Instr} {bs : List Byte} (h : Encodes ops i bs) :
    StandsAt rev ops i bs := by
  obtain ⟨hboth, henc⟩ := h
  obtain ⟨h3, hE⟩ := Bool.or_eq_false_iff.1 hboth
  have hadded : i.added = none := by
    cases i <;> first | rfl | simp [Instr.only3000A, Instr.added] at h3
  refine ⟨?_, henc⟩
  cases rev <;> simp [WellFormed, h3, hE, OpcodeMap.names, hadded]

/-- A form is sound when what it reads stands at the opcode and the operand bytes; `place` puts the operand bytes in their place. -/
def Form.Sound (rev : Rev) (ops : OpcodeMap) (place : List Byte → List Byte) : Form → Prop
  | .done i => StandsAt rev ops i (place [])
  | .imm8 k => ∀ n, StandsAt rev ops (k n) (place [n])
  | .imm16 k => ∀ w, StandsAt rev ops (k w) (place [loByte w, hiByte w])
  | .disp8imm8 k => ∀ d n, StandsAt rev ops (k d n) (place [d, n])
  | .imm16imm8 k => ∀ w x, StandsAt rev ops (k w x) (place [loByte w, hiByte w, x])

section
variable {rev : Rev} {ops : OpcodeMap} {place : List Byte → List Byte}

theorem Form.Sound.done {i : Instr} (h : Encodes ops i (place [])) : (Form.done i).Sound rev ops place := h.standsAt

theorem Form.Sound.imm8 {k : Byte → Instr} (h : ∀ n, Encodes ops (k n) (place [n])) : (Form.imm8 k).Sound rev ops place :=
  fun n => (h n).standsAt

theorem Form.Sound.imm16 {k : Word → Instr} (h : ∀ w, Encodes ops (k w) (place [loByte w, hiByte w])) :
    (Form.imm16 k).Sound rev ops place := fun w => (h w).standsAt

theorem Form.Sound.disp8imm8 {k : Byte → Byte → Instr} (h : ∀ d n, Encodes ops (k d n) (place [d, n])) :
    (Form.disp8imm8 k).Sound rev ops place := fun d n => (h d n).standsAt

theorem Form.Sound.imm16imm8 {k : Word → Byte → Instr} (h : ∀ w x, Encodes ops (k w x) (place [loByte w, hiByte w, x])) :
    (Form.imm16imm8 k).Sound rev ops place := fun w x => (h w x).standsAt

/-- What a sound form reads stands in front of what it leaves. -/
theorem Form.Sound.read {f : Form} (h : f.Sound rev ops place) {bs rest : List Byte} {i : Instr} (hr : f.read bs = .ok (i, rest)) :
    ∃ os, StandsAt rev ops i (place os) ∧ bs = os ++ rest := by
  cases f with
  | done j =>
    rw [Form.read_done] at hr
    obtain ⟨rfl, rfl⟩ : j = i ∧ bs = rest := by simpa using hr
    exact ⟨[], h, rfl⟩
  | imm8 k =>
    obtain _ | ⟨n, bs⟩ := bs <;> simp only [Form.read, reduceCtorEq, Except.ok.injEq, Prod.mk.injEq] at hr
    obtain ⟨rfl, rfl⟩ := hr
    exact ⟨[n], h n, rfl⟩
  | imm16 k =>
    obtain _ | ⟨n, _ | ⟨m, bs⟩⟩ := bs <;> simp only [Form.read, reduceCtorEq, Except.ok.injEq, Prod.mk.injEq] at hr
    obtain ⟨rfl, rfl⟩ := hr
    exact ⟨[n, m], by simpa using h (word m n), rfl⟩
  | disp8imm8 k =>
    obtain _ | ⟨d, _ | ⟨n, bs⟩⟩ := bs <;> simp only [Form.read, reduceCtorEq, Except.ok.injEq, Prod.mk.injEq] at hr
    obtain ⟨rfl, rfl⟩ := hr
    exact ⟨[d, n], h d n, rfl⟩
  | imm16imm8 k =>
    obtain _ | ⟨n, _ | ⟨m, _ | ⟨x, bs⟩⟩⟩ := bs <;> simp only [Form.read, reduceCtorEq, Except.ok.injEq, Prod.mk.injEq] at hr
    obtain ⟨rfl, rfl⟩ := hr
    exact ⟨[n, m, x], by simpa using h (word m n) x, rfl⟩

/-! Rows, by the shape of the mask -/

/-- Where a page puts an opcode byte and its operand bytes. -/
def onPage (pre : List Byte) (b : Byte) (os : List Byte) : List Byte := pre ++ b :: os

/-- The pages DD CB and FD CB put the opcode byte last (`30_encoding.md` R130). -/
def onCbPage (x b : Byte) (os : List Byte) : List Byte := x :: 0xCB :: os ++ [b]

/-- A row is sound at an opcode byte when the form it gives it is. -/
def OpRow.Sound (rev : Rev) (ops : OpcodeMap) (page : Byte → List Byte → List Byte) (b : Byte) (row : OpRow) : Prop :=
  ∀ f, row.select rev b = some f → f.Sound rev ops (page b)

theorem OpRow.select_eq_some {row : OpRow} {b : Byte} {f : Form} : row.select rev b = some f ↔
    (b &&& row.mask = row.pattern ∧ (row.only3000A = true → rev = .r3000A)) ∧ row.form b = some f := by
  simp [OpRow.select]

/-- A select read from its code. -/
theorem form_of_bind {n : Nat} {α : Type} {dec : BitVec n → Option α} {code : α → BitVec n}
    (hcode : ∀ c r, dec c = some r → code r = c) {k : α → Form} {c : BitVec n} (f : Form)
    (h : ((dec c).bind fun r => some (k r)) = some f) : ∃ r, code r = c ∧ f = k r := by
  obtain ⟨r, hr, hf⟩ := Option.bind_eq_some_iff.1 h
  exact ⟨r, hcode c r hr, (Option.some.inj hf).symm⟩

/-- A select that every code names. -/
theorem form_of_code {n : Nat} {α : Type} {dec : BitVec n → α} {code : α → BitVec n} (hcode : ∀ c, code (dec c) = c)
    (k : α → Form) {c : BitVec n} (f : Form) (h : some (k (dec c)) = some f) : ∃ r, code r = c ∧ f = k r :=
  ⟨dec c, hcode c, (Option.some.inj h).symm⟩

variable {page : Byte → List Byte → List Byte} {b p : Byte} {α : Type} {k : α → Form} {form : Byte → Option Form}

theorem OpRow.Sound.fixed {f : Form} (h : f.Sound rev ops (page p)) : 
    OpRow.Sound rev ops page b ⟨0xFF, p, false, fun _ => some f⟩ := by
  intro g hg
  obtain ⟨⟨hb, -⟩, hf⟩ := OpRow.select_eq_some.1 hg
  obtain rfl : f = g := Option.some.inj hf
  have hp : b = p := (BitVec.and_allOnes (x := b)).symm.trans hb
  exact hp ▸ h

/-- Three select bits in the middle. -/
theorem OpRow.Sound.mid3 {code : α → BitVec 3} {hi : BitVec 2} {lo : BitVec 3}
    (hform : ∀ f, form b = some f → ∃ r, code r = fld3 b 3 ∧ f = k r)
    (h : ∀ r, (k r).Sound rev ops (page (hi ++ code r ++ lo))) (hp : p = hi ++ 0#3 ++ lo) :
    OpRow.Sound rev ops page b ⟨0xC7, p, false, form⟩ := by
  intro g hg
  obtain ⟨⟨hb, -⟩, hf⟩ := OpRow.select_eq_some.1 hg
  obtain ⟨r, hr, rfl⟩ := hform g hf
  have hbits : hi ++ fld3 b 3 ++ lo = b := append_field (h := 2) (k := 3) (l := 3) (hb.trans hp)
  rw [← hbits, ← hr]
  exact h r

/-- Two select bits in the middle, four bits below. -/
theorem OpRow.Sound.mid2 {code : α → BitVec 2} {hi : BitVec 2} {lo : BitVec 4}
    (hform : ∀ f, form b = some f → ∃ r, code r = fld2 b 4 ∧ f = k r)
    (h : ∀ r, (k r).Sound rev ops (page (hi ++ code r ++ lo))) (hp : p = hi ++ 0#2 ++ lo) :
    OpRow.Sound rev ops page b ⟨0xCF, p, false, form⟩ := by
  intro g hg
  obtain ⟨⟨hb, -⟩, hf⟩ := OpRow.select_eq_some.1 hg
  obtain ⟨r, hr, rfl⟩ := hform g hf
  have hbits : hi ++ fld2 b 4 ++ lo = b := append_field (h := 2) (k := 2) (l := 4) (hb.trans hp)
  rw [← hbits, ← hr]
  exact h r

/-- Two select bits in the middle, three bits below. -/
theorem OpRow.Sound.midCc {code : α → BitVec 2} {hi lo : BitVec 3}
    (hform : ∀ f, form b = some f → ∃ r, code r = fld2 b 3 ∧ f = k r)
    (h : ∀ r, (k r).Sound rev ops (page (hi ++ code r ++ lo))) (hp : p = hi ++ 0#2 ++ lo) :
    OpRow.Sound rev ops page b ⟨0xE7, p, false, form⟩ := by
  intro g hg
  obtain ⟨⟨hb, -⟩, hf⟩ := OpRow.select_eq_some.1 hg
  obtain ⟨r, hr, rfl⟩ := hform g hf
  have hbits : hi ++ fld2 b 3 ++ lo = b := append_field (h := 3) (k := 2) (l := 3) (hb.trans hp)
  rw [← hbits, ← hr]
  exact h r

/-- Three select bits at the end. -/
theorem OpRow.Sound.low3 {code : α → BitVec 3} {hi : BitVec 5}
    (hform : ∀ f, form b = some f → ∃ r, code r = fld3 b 0 ∧ f = k r)
    (h : ∀ r, (k r).Sound rev ops (page (hi ++ code r))) (hp : p = hi ++ 0#3) :
    OpRow.Sound rev ops page b ⟨0xF8, p, false, form⟩ := by
  intro g hg
  obtain ⟨⟨hb, -⟩, hf⟩ := OpRow.select_eq_some.1 hg
  obtain ⟨r, hr, rfl⟩ := hform g hf
  have hbits : hi ++ fld3 b 0 = b := append_lowField (h := 5) (k := 3) (hb.trans hp)
  rw [← hbits, ← hr]
  exact h r

/-- Three select bits in the middle and three at the end. -/
theorem OpRow.Sound.both3 {code : α → BitVec 3} {hi : BitVec 2}
    (hform : ∀ f, form b = some f → ∃ r, code r = fld3 b 0 ∧ f = k r)
    (h : ∀ r, hi ++ fld3 b 3 ++ code r = b → (k r).Sound rev ops (page (hi ++ fld3 b 3 ++ code r))) (hp : p = hi ++ 0#6) :
    OpRow.Sound rev ops page b ⟨0xC0, p, false, form⟩ := by
  intro g hg
  obtain ⟨⟨hb, -⟩, hf⟩ := OpRow.select_eq_some.1 hg
  obtain ⟨r, hr, rfl⟩ := hform g hf
  have hbits : hi ++ fld3 b 3 ++ fld3 b 0 = b := append_twoFields (hb.trans hp)
  rw [← hr] at hbits
  have := h r hbits
  rwa [hbits] at this

end

/-! The pages, row by row -/

theorem form_of_r8 {k : R8 → Form} {c : BitVec 3} (f : Form) (h : ((R8.ofCode c).bind fun r => some (k r)) = some f) :
    ∃ r : R8, r.code = c ∧ f = k r := form_of_bind (fun _ _ => R8.code_ofCode) f h

theorem form_of_bits {n : Nat} (k : BitVec n → Form) {c : BitVec n} (f : Form) (h : some (k c) = some f) :
    ∃ r : BitVec n, id r = c ∧ f = k r := ⟨c, rfl, (Option.some.inj h).symm⟩

section
variable {rev : Rev} {ops : OpcodeMap} {b : Byte}

theorem idetRow_sound (hb : rev = .r3000A → b ≠ 0x5B) :
    OpRow.Sound rev ops (onPage []) b ⟨0xFF, 0x5B, true, fun _ => some (.done .idet)⟩ := by
  intro f hf
  obtain ⟨⟨hop, hrev⟩, -⟩ := OpRow.select_eq_some.1 hf
  exact absurd ((BitVec.and_allOnes (x := b)).symm.trans hop) (hb (hrev rfl))

/-- `LD E,E` is the original chip's (`30_encoding.md` R126). -/
theorem wellFormed_ldRG {r g : R8} (h : rev = .r3000A → ¬(r = .e ∧ g = .e)) : WellFormed rev ops (.ldRG r g) = true := by
  cases rev with
  | r3000 => rfl
  | r3000A =>
    have hE : (Instr.ldRG r g).isLdEE = false := by
      cases r <;> cases g <;> first | rfl | exact absurd ⟨rfl, rfl⟩ (h rfl)
    simp [WellFormed, hE, OpcodeMap.names, Instr.added]

theorem ldRGRow_sound (hb : rev = .r3000A → b ≠ 0x5B) : OpRow.Sound rev ops (onPage []) b ⟨0xC0, 0x40, false, fun b =>
    (R8.ofCode (fld3 b 3)).bind fun r => (R8.ofCode (fld3 b 0)).bind fun g => some (.done (.ldRG r g))⟩ := by
  intro f hf
  obtain ⟨⟨hop, -⟩, hform⟩ := OpRow.select_eq_some.1 hf
  obtain ⟨r, hr, hrest⟩ := Option.bind_eq_some_iff.1 hform
  obtain ⟨g, hg, rfl⟩ := form_of_r8 f hrest
  have hbits : 1#2 ++ r.code ++ g.code = b := by
    rw [R8.code_ofCode hr, hg]
    exact append_twoFields hop
  refine ⟨wellFormed_ldRG fun hrev he => hb hrev ?_, congrArg (fun c => [c]) hbits⟩
  rw [← hbits, he.1, he.2]
  rfl

theorem mainRows0_sound (hb : rev = .r3000A → b ≠ 0x5B) : ∀ row ∈ mainRows0, row.Sound rev ops (onPage []) b := by
  simp only [mainRows0, List.forall_mem_cons, List.not_mem_nil, false_imp_iff, implies_true, and_true]
  exact ⟨idetRow_sound hb,
    .mid2 (form_of_code SS.code_ofCode fun x => .imm16 (fun mn => .ldDdMn x mn)) (fun _ => .imm16 fun _ => ⟨rfl, rfl⟩) rfl,
    .mid3 form_of_r8 (fun _ => .imm8 fun _ => ⟨rfl, rfl⟩) rfl, .fixed (.imm16 fun _ => ⟨rfl, rfl⟩),
    .fixed (.imm16 fun _ => ⟨rfl, rfl⟩), .fixed (.imm16 fun _ => ⟨rfl, rfl⟩), .fixed (.imm16 fun _ => ⟨rfl, rfl⟩),
    .fixed (.done ⟨rfl, rfl⟩), .fixed (.done ⟨rfl, rfl⟩), .fixed (.done ⟨rfl, rfl⟩), .fixed (.done ⟨rfl, rfl⟩),
    .fixed (.imm8 fun _ => ⟨rfl, rfl⟩), .low3 form_of_r8 (fun _ => .done ⟨rfl, rfl⟩) rfl,
    .mid3 form_of_r8 (fun _ => .done ⟨rfl, rfl⟩) rfl, .fixed (.imm8 fun _ => ⟨rfl, rfl⟩),
    .fixed (.imm8 fun _ => ⟨rfl, rfl⟩), .fixed (.imm8 fun _ => ⟨rfl, rfl⟩), .fixed (.imm8 fun _ => ⟨rfl, rfl⟩),
    ldRGRow_sound hb, .fixed (.done ⟨rfl, rfl⟩)⟩

theorem mainRows1_sound : ∀ row ∈ mainRows1, row.Sound rev ops (onPage []) b := by
  simp only [mainRows1, List.forall_mem_cons, List.not_mem_nil, false_imp_iff, implies_true, and_true]
  exact ⟨.fixed (.done ⟨rfl, rfl⟩), .fixed (.done ⟨rfl, rfl⟩), .fixed (.done ⟨rfl, rfl⟩), .fixed (.done ⟨rfl, rfl⟩),
    .mid2 (form_of_code ZZ.code_ofCode fun x => .done (.popZz x)) (fun _ => .done ⟨rfl, rfl⟩) rfl,
    .mid2 (form_of_code ZZ.code_ofCode fun x => .done (.pushZz x)) (fun _ => .done ⟨rfl, rfl⟩) rfl,
    .fixed (.imm8 fun _ => ⟨rfl, rfl⟩),
    .mid2 (form_of_code SS.code_ofCode fun x => .done (.addHlSs x)) (fun _ => .done ⟨rfl, rfl⟩) rfl,
    .fixed (.done ⟨rfl, rfl⟩), .fixed (.done ⟨rfl, rfl⟩),
    .mid2 (form_of_code SS.code_ofCode fun x => .done (.decSs x)) (fun _ => .done ⟨rfl, rfl⟩) rfl,
    .mid2 (form_of_code SS.code_ofCode fun x => .done (.incSs x)) (fun _ => .done ⟨rfl, rfl⟩) rfl,
    .fixed (.done ⟨rfl, rfl⟩), .fixed (.done ⟨rfl, rfl⟩), .fixed (.done ⟨rfl, rfl⟩), .fixed (.done ⟨rfl, rfl⟩),
    .fixed (.done ⟨rfl, rfl⟩), .fixed (.done ⟨rfl, rfl⟩), .fixed (.imm8 fun _ => ⟨rfl, rfl⟩),
    .low3 form_of_r8 (fun _ => .done ⟨rfl, rfl⟩) rfl⟩

theorem mainRows2_sound : ∀ row ∈ mainRows2, row.Sound rev ops (onPage []) b := by
  simp only [mainRows2, List.forall_mem_cons, List.not_mem_nil, false_imp_iff, implies_true, and_true]
  exact ⟨.fixed (.done ⟨rfl, rfl⟩), .fixed (.imm8 fun _ => ⟨rfl, rfl⟩), .low3 form_of_r8 (fun _ => .done ⟨rfl, rfl⟩) rfl,
    .fixed (.done ⟨rfl, rfl⟩), .fixed (.imm8 fun _ => ⟨rfl, rfl⟩), .low3 form_of_r8 (fun _ => .done ⟨rfl, rfl⟩) rfl,
    .fixed (.done ⟨rfl, rfl⟩), .fixed (.imm8 fun _ => ⟨rfl, rfl⟩), .low3 form_of_r8 (fun _ => .done ⟨rfl, rfl⟩) rfl,
    .fixed (.done ⟨rfl, rfl⟩), .fixed (.imm8 fun _ => ⟨rfl, rfl⟩), .low3 form_of_r8 (fun _ => .done ⟨rfl, rfl⟩) rfl,
    .fixed (.done ⟨rfl, rfl⟩), .fixed (.imm8 fun _ => ⟨rfl, rfl⟩), .low3 form_of_r8 (fun _ => .done ⟨rfl, rfl⟩) rfl,
    .fixed (.done ⟨rfl, rfl⟩), .fixed (.imm8 fun _ => ⟨rfl, rfl⟩), .low3 form_of_r8 (fun _ => .done ⟨rfl, rfl⟩) rfl,
    .fixed (.done ⟨rfl, rfl⟩), .fixed (.imm8 fun _ => ⟨rfl, rfl⟩)⟩

theorem mainRows3_sound : ∀ row ∈ mainRows3, row.Sound rev ops (onPage []) b := by
  simp only [mainRows3, List.forall_mem_cons, List.not_mem_nil, false_imp_iff, implies_true, and_true]
  exact ⟨.low3 form_of_r8 (fun _ => .done ⟨rfl, rfl⟩) rfl, .fixed (.done ⟨rfl, rfl⟩),
    .mid3 form_of_r8 (fun _ => .done ⟨rfl, rfl⟩) rfl, .fixed (.done ⟨rfl, rfl⟩),
    .mid3 form_of_r8 (fun _ => .done ⟨rfl, rfl⟩) rfl, .fixed (.done ⟨rfl, rfl⟩), .fixed (.done ⟨rfl, rfl⟩),
    .fixed (.done ⟨rfl, rfl⟩), .fixed (.done ⟨rfl, rfl⟩), .fixed (.done ⟨rfl, rfl⟩), .fixed (.done ⟨rfl, rfl⟩),
    .fixed (.done ⟨rfl, rfl⟩), .fixed (.done ⟨rfl, rfl⟩), .fixed (.imm16 fun _ => ⟨rfl, rfl⟩),
    .fixed (.imm8 fun _ => ⟨rfl, rfl⟩), .fixed (.done ⟨rfl, rfl⟩),
    .mid3 (form_of_code Cond.code_ofCode fun x => .imm16 (fun mn => .jpFMn x mn)) (fun _ => .imm16 fun _ => ⟨rfl, rfl⟩) rfl,
    .fixed (.imm16 fun _ => ⟨rfl, rfl⟩),
    .midCc (form_of_code CC.code_ofCode fun x => .imm8 (fun e => .jrCcE x e)) (fun _ => .imm8 fun _ => ⟨rfl, rfl⟩) rfl,
    .fixed (.imm8 fun _ => ⟨rfl, rfl⟩)⟩

theorem mainRows4_sound : ∀ row ∈ mainRows4, row.Sound rev ops (onPage []) b := by
  simp only [mainRows4, List.forall_mem_cons, List.not_mem_nil, false_imp_iff, implies_true, and_true]
  exact ⟨.fixed (.imm16imm8 fun _ _ => ⟨rfl, rfl⟩), .fixed (.imm16imm8 fun _ _ => ⟨rfl, rfl⟩), .fixed (.done ⟨rfl, rfl⟩),
    .mid3 (form_of_code Cond.code_ofCode fun x => .done (.retF x)) (fun _ => .done ⟨rfl, rfl⟩) rfl,
    .mid3 (form_of_bind RstV.code_ofCode) (fun _ => .done ⟨rfl, rfl⟩) rfl, .fixed (.done ⟨rfl, rfl⟩),
    .fixed (.done ⟨rfl, rfl⟩), .fixed (.done ⟨rfl, rfl⟩)⟩

theorem cbRows0_sound : ∀ row ∈ cbRows0, row.Sound rev ops (onPage [0xCB]) b := by
  simp only [cbRows0, List.forall_mem_cons, List.not_mem_nil, false_imp_iff, implies_true, and_true]
  exact ⟨.mid3 (form_of_bits fun x => .done (.bitBAtHl x)) (fun _ => .done ⟨rfl, rfl⟩) rfl,
    .both3 form_of_r8 (fun _ _ => .done ⟨rfl, rfl⟩) rfl,
    .mid3 (form_of_bits fun x => .done (.resBAtHl x)) (fun _ => .done ⟨rfl, rfl⟩) rfl,
    .both3 form_of_r8 (fun _ _ => .done ⟨rfl, rfl⟩) rfl,
    .mid3 (form_of_bits fun x => .done (.setBAtHl x)) (fun _ => .done ⟨rfl, rfl⟩) rfl,
    .both3 form_of_r8 (fun _ _ => .done ⟨rfl, rfl⟩) rfl, .fixed (.done ⟨rfl, rfl⟩),
    .low3 form_of_r8 (fun _ => .done ⟨rfl, rfl⟩) rfl, .fixed (.done ⟨rfl, rfl⟩),
    .low3 form_of_r8 (fun _ => .done ⟨rfl, rfl⟩) rfl, .fixed (.done ⟨rfl, rfl⟩),
    .low3 form_of_r8 (fun _ => .done ⟨rfl, rfl⟩) rfl, .fixed (.done ⟨rfl, rfl⟩),
    .low3 form_of_r8 (fun _ => .done ⟨rfl, rfl⟩) rfl, .fixed (.done ⟨rfl, rfl⟩),
    .low3 form_of_r8 (fun _ => .done ⟨rfl, rfl⟩) rfl, .fixed (.done ⟨rfl, rfl⟩),
    .low3 form_of_r8 (fun _ => .done ⟨rfl, rfl⟩) rfl, .fixed (.done ⟨rfl, rfl⟩),
    .low3 form_of_r8 (fun _ => .done ⟨rfl, rfl⟩) rfl⟩

theorem edRows0_sound : ∀ row ∈ edRows0, row.Sound rev ops (onPage [0xED]) b := by
  simp only [edRows0, List.forall_mem_cons, List.not_mem_nil, false_imp_iff, implies_true, and_true]
  exact ⟨
    .mid2 (form_of_code SS.code_ofCode fun x => .imm16 (fun mn => .ldAtMnSs mn x)) (fun _ => .imm16 fun _ => ⟨rfl, rfl⟩) rfl,
    .mid2 (form_of_code SS.code_ofCode fun x => .imm16 (fun mn => .ldDdAtMn x mn)) (fun _ => .imm16 fun _ => ⟨rfl, rfl⟩) rfl,
    .fixed (.done ⟨rfl, rfl⟩), .fixed (.done ⟨rfl, rfl⟩), .fixed (.imm16 fun _ => ⟨rfl, rfl⟩),
    .fixed (.imm16 fun _ => ⟨rfl, rfl⟩), .fixed (.done ⟨rfl, rfl⟩), .fixed (.done ⟨rfl, rfl⟩), .fixed (.done ⟨rfl, rfl⟩),
    .fixed (.done ⟨rfl, rfl⟩), .fixed (.done ⟨rfl, rfl⟩), .fixed (.done ⟨rfl, rfl⟩),
    .mid2 (form_of_bind DDa.code_ofCode) (fun _ => .done ⟨rfl, rfl⟩) rfl,
    .mid2 (form_of_bind DDa.code_ofCode) (fun _ => .done ⟨rfl, rfl⟩) rfl, .fixed (.done ⟨rfl, rfl⟩),
    .fixed (.done ⟨rfl, rfl⟩), .fixed (.done ⟨rfl, rfl⟩),
    .mid2 (form_of_code SS.code_ofCode fun x => .done (.adcHlSs x)) (fun _ => .done ⟨rfl, rfl⟩) rfl,
    .mid2 (form_of_code SS.code_ofCode fun x => .done (.sbcHlSs x)) (fun _ => .done ⟨rfl, rfl⟩) rfl,
    .fixed (.done ⟨rfl, rfl⟩)⟩

theorem edRows1_sound : ∀ row ∈ edRows1, row.Sound rev ops (onPage [0xED]) b := by
  simp only [edRows1, List.forall_mem_cons, List.not_mem_nil, false_imp_iff, implies_true, and_true]
  exact ⟨.fixed (.done ⟨rfl, rfl⟩), .fixed (.done ⟨rfl, rfl⟩), .fixed (.done ⟨rfl, rfl⟩), .fixed (.done ⟨rfl, rfl⟩),
    .fixed (.done ⟨rfl, rfl⟩), .fixed (.done ⟨rfl, rfl⟩), .fixed (.done ⟨rfl, rfl⟩), .fixed (.done ⟨rfl, rfl⟩),
    .fixed (.done ⟨rfl, rfl⟩), .fixed (.done ⟨rfl, rfl⟩), .fixed (.done ⟨rfl, rfl⟩)⟩

theorem ddRows0_sound : ∀ row ∈ ddRows0, row.Sound rev ops (onPage [0xDD]) b := by
  simp only [ddRows0, List.forall_mem_cons, List.not_mem_nil, false_imp_iff, implies_true, and_true]
  exact ⟨.fixed (.imm16 fun _ => ⟨rfl, rfl⟩), .fixed (.imm16 fun _ => ⟨rfl, rfl⟩), .fixed (.imm16 fun _ => ⟨rfl, rfl⟩),
    .fixed (.disp8imm8 fun _ _ => ⟨rfl, rfl⟩), .low3 form_of_r8 (fun _ => .imm8 fun _ => ⟨rfl, rfl⟩) rfl,
    .mid3 form_of_r8 (fun _ => .imm8 fun _ => ⟨rfl, rfl⟩) rfl, .fixed (.imm8 fun _ => ⟨rfl, rfl⟩),
    .fixed (.imm8 fun _ => ⟨rfl, rfl⟩), .fixed (.imm8 fun _ => ⟨rfl, rfl⟩), .fixed (.imm8 fun _ => ⟨rfl, rfl⟩),
    .fixed (.done ⟨rfl, rfl⟩), .fixed (.done ⟨rfl, rfl⟩), .fixed (.imm16 fun _ => ⟨rfl, rfl⟩),
    .fixed (.imm16 fun _ => ⟨rfl, rfl⟩), .fixed (.done ⟨rfl, rfl⟩), .fixed (.done ⟨rfl, rfl⟩), .fixed (.done ⟨rfl, rfl⟩),
    .fixed (.done ⟨rfl, rfl⟩), .fixed (.done ⟨rfl, rfl⟩), .fixed (.done ⟨rfl, rfl⟩)⟩

theorem ddRows1_sound : ∀ row ∈ ddRows1, row.Sound rev ops (onPage [0xDD]) b := by
  simp only [ddRows1, List.forall_mem_cons, List.not_mem_nil, false_imp_iff, implies_true, and_true]
  exact ⟨.mid2 (form_of_code XX.code_ofCode fun x => .done (.addIxXx x)) (fun _ => .done ⟨rfl, rfl⟩) rfl,
    .fixed (.done ⟨rfl, rfl⟩), .fixed (.done ⟨rfl, rfl⟩), .fixed (.done ⟨rfl, rfl⟩), .fixed (.done ⟨rfl, rfl⟩),
    .fixed (.done ⟨rfl, rfl⟩), .fixed (.done ⟨rfl, rfl⟩), .fixed (.imm8 fun _ => ⟨rfl, rfl⟩),
    .fixed (.imm8 fun _ => ⟨rfl, rfl⟩), .fixed (.imm8 fun _ => ⟨rfl, rfl⟩), .fixed (.imm8 fun _ => ⟨rfl, rfl⟩),
    .fixed (.imm8 fun _ => ⟨rfl, rfl⟩), .fixed (.imm8 fun _ => ⟨rfl, rfl⟩), .fixed (.imm8 fun _ => ⟨rfl, rfl⟩),
    .fixed (.imm8 fun _ => ⟨rfl, rfl⟩), .fixed (.imm8 fun _ => ⟨rfl, rfl⟩), .fixed (.imm8 fun _ => ⟨rfl, rfl⟩),
    .fixed (.done ⟨rfl, rfl⟩)⟩

theorem fdRows0_sound : ∀ row ∈ fdRows0, row.Sound rev ops (onPage [0xFD]) b := by
  simp only [fdRows0, List.forall_mem_cons, List.not_mem_nil, false_imp_iff, implies_true, and_true]
  exact ⟨.fixed (.imm16 fun _ => ⟨rfl, rfl⟩), .fixed (.imm16 fun _ => ⟨rfl, rfl⟩), .fixed (.imm16 fun _ => ⟨rfl, rfl⟩),
    .fixed (.disp8imm8 fun _ _ => ⟨rfl, rfl⟩), .low3 form_of_r8 (fun _ => .imm8 fun _ => ⟨rfl, rfl⟩) rfl,
    .mid3 form_of_r8 (fun _ => .imm8 fun _ => ⟨rfl, rfl⟩) rfl, .fixed (.imm8 fun _ => ⟨rfl, rfl⟩),
    .fixed (.imm8 fun _ => ⟨rfl, rfl⟩), .fixed (.imm8 fun _ => ⟨rfl, rfl⟩), .fixed (.imm8 fun _ => ⟨rfl, rfl⟩),
    .fixed (.done ⟨rfl, rfl⟩), .fixed (.done ⟨rfl, rfl⟩), .fixed (.imm16 fun _ => ⟨rfl, rfl⟩),
    .fixed (.imm16 fun _ => ⟨rfl, rfl⟩), .fixed (.done ⟨rfl, rfl⟩), .fixed (.done ⟨rfl, rfl⟩), .fixed (.done ⟨rfl, rfl⟩),
    .fixed (.done ⟨rfl, rfl⟩), .fixed (.done ⟨rfl, rfl⟩), .fixed (.done ⟨rfl, rfl⟩)⟩

theorem fdRows1_sound : ∀ row ∈ fdRows1, row.Sound rev ops (onPage [0xFD]) b := by
  simp only [fdRows1, List.forall_mem_cons, List.not_mem_nil, false_imp_iff, implies_true, and_true]
  exact ⟨.mid2 (form_of_code YY.code_ofCode fun x => .done (.addIyYy x)) (fun _ => .done ⟨rfl, rfl⟩) rfl,
    .fixed (.done ⟨rfl, rfl⟩), .fixed (.done ⟨rfl, rfl⟩), .fixed (.done ⟨rfl, rfl⟩), .fixed (.done ⟨rfl, rfl⟩),
    .fixed (.done ⟨rfl, rfl⟩), .fixed (.done ⟨rfl, rfl⟩), .fixed (.imm8 fun _ => ⟨rfl, rfl⟩),
    .fixed (.imm8 fun _ => ⟨rfl, rfl⟩), .fixed (.imm8 fun _ => ⟨rfl, rfl⟩), .fixed (.imm8 fun _ => ⟨rfl, rfl⟩),
    .fixed (.imm8 fun _ => ⟨rfl, rfl⟩), .fixed (.imm8 fun _ => ⟨rfl, rfl⟩), .fixed (.imm8 fun _ => ⟨rfl, rfl⟩),
    .fixed (.imm8 fun _ => ⟨rfl, rfl⟩), .fixed (.imm8 fun _ => ⟨rfl, rfl⟩), .fixed (.imm8 fun _ => ⟨rfl, rfl⟩),
    .fixed (.done ⟨rfl, rfl⟩)⟩

theorem ddcbRows0_sound : ∀ row ∈ ddcbRows0, row.Sound rev ops (onCbPage 0xDD) b := by
  simp only [ddcbRows0, List.forall_mem_cons, List.not_mem_nil, false_imp_iff, implies_true, and_true]
  exact ⟨.mid3 (form_of_bits fun x => .imm8 (fun d => .bitBAtIxD x d)) (fun _ => .imm8 fun _ => ⟨rfl, rfl⟩) rfl,
    .mid3 (form_of_bits fun x => .imm8 (fun d => .resBAtIxD x d)) (fun _ => .imm8 fun _ => ⟨rfl, rfl⟩) rfl,
    .mid3 (form_of_bits fun x => .imm8 (fun d => .setBAtIxD x d)) (fun _ => .imm8 fun _ => ⟨rfl, rfl⟩) rfl,
    .fixed (.imm8 fun _ => ⟨rfl, rfl⟩), .fixed (.imm8 fun _ => ⟨rfl, rfl⟩), .fixed (.imm8 fun _ => ⟨rfl, rfl⟩),
    .fixed (.imm8 fun _ => ⟨rfl, rfl⟩), .fixed (.imm8 fun _ => ⟨rfl, rfl⟩), .fixed (.imm8 fun _ => ⟨rfl, rfl⟩),
    .fixed (.imm8 fun _ => ⟨rfl, rfl⟩)⟩

theorem fdcbRows0_sound : ∀ row ∈ fdcbRows0, row.Sound rev ops (onCbPage 0xFD) b := by
  simp only [fdcbRows0, List.forall_mem_cons, List.not_mem_nil, false_imp_iff, implies_true, and_true]
  exact ⟨.mid3 (form_of_bits fun x => .imm8 (fun d => .bitBAtIyD x d)) (fun _ => .imm8 fun _ => ⟨rfl, rfl⟩) rfl,
    .mid3 (form_of_bits fun x => .imm8 (fun d => .resBAtIyD x d)) (fun _ => .imm8 fun _ => ⟨rfl, rfl⟩) rfl,
    .mid3 (form_of_bits fun x => .imm8 (fun d => .setBAtIyD x d)) (fun _ => .imm8 fun _ => ⟨rfl, rfl⟩) rfl,
    .fixed (.imm8 fun _ => ⟨rfl, rfl⟩), .fixed (.imm8 fun _ => ⟨rfl, rfl⟩), .fixed (.imm8 fun _ => ⟨rfl, rfl⟩),
    .fixed (.imm8 fun _ => ⟨rfl, rfl⟩), .fixed (.imm8 fun _ => ⟨rfl, rfl⟩), .fixed (.imm8 fun _ => ⟨rfl, rfl⟩),
    .fixed (.imm8 fun _ => ⟨rfl, rfl⟩)⟩

/-! What decodes -/

variable {rows : List OpRow} {bs rest : List Byte} {op : Byte} {i : Instr}

theorem decodePage_eq_ok {page : String} (h : decodePage rev page rows op bs = .ok (i, rest)) :
    ∃ f, rows.findSome? (OpRow.select rev op) = some f ∧ f.read bs = .ok (i, rest) := by
  unfold decodePage at h
  split at h
  · exact ⟨_, ‹_›, h⟩
  · cases h

/-- A form found on a page of sound rows reads what stands there. -/
theorem standsAt_of_findSome? {page : Byte → List Byte → List Byte} {f : Form} (hrows : ∀ row ∈ rows, row.Sound rev ops page op)
    (hf : rows.findSome? (OpRow.select rev op) = some f) (hr : f.read bs = .ok (i, rest)) :
    ∃ os, StandsAt rev ops i (page op os) ∧ bs = os ++ rest := by
  obtain ⟨row, hmem, hsel⟩ := List.exists_of_findSome?_eq_some hf
  exact (hrows row hmem f hsel).read hr

theorem onPage_append (pre os : List Byte) : onPage pre op os ++ rest = pre ++ op :: (os ++ rest) := by
  simp [onPage]

theorem mainRows_sound (hb : rev = .r3000A → op ≠ 0x5B) : ∀ row ∈ mainRows, row.Sound rev ops (onPage []) op := by
  simp only [mainRows, List.forall_mem_append]
  exact ⟨⟨⟨⟨mainRows0_sound hb, mainRows1_sound⟩, mainRows2_sound⟩, mainRows3_sound⟩, mainRows4_sound⟩

theorem decodeMain_sound (h : decodePage rev "main" mainRows op bs = .ok (i, rest)) :
    WellFormed rev ops i = true ∧ encode ops i ++ rest = op :: bs := by
  obtain ⟨f, hf, hr⟩ := decodePage_eq_ok h
  by_cases hidet : rev = .r3000A ∧ op = 0x5B
  · obtain ⟨rfl, rfl⟩ := hidet
    obtain rfl : Form.done .idet = f := Option.some.inj hf
    rw [Form.read_done] at hr
    obtain ⟨rfl, rfl⟩ : Instr.idet = i ∧ bs = rest := by simpa using hr
    exact ⟨rfl, rfl⟩
  · obtain ⟨os, ⟨hwf, henc⟩, hbs⟩ := standsAt_of_findSome? (mainRows_sound fun hrev hop => hidet ⟨hrev, hop⟩) hf hr
    exact ⟨hwf, by rw [henc, hbs, onPage_append, List.nil_append]⟩

/-- A page behind a page byte. -/
theorem decodePage_sound {page : String} {x : Byte} (hrows : ∀ row ∈ rows, row.Sound rev ops (onPage [x]) op)
    (h : decodePage rev page rows op bs = .ok (i, rest)) :
    WellFormed rev ops i = true ∧ encode ops i ++ rest = x :: op :: bs := by
  obtain ⟨f, hf, hr⟩ := decodePage_eq_ok h
  obtain ⟨os, ⟨hwf, henc⟩, rfl⟩ := standsAt_of_findSome? hrows hf hr
  exact ⟨hwf, by rw [henc, onPage_append, List.singleton_append]⟩

/-- A pair of a list whose first parts differ throughout is found by its first part. -/
theorem lookup_of_mem {α β : Type} [BEq α] [LawfulBEq α] {l : List (α × β)} {a : α} {v : β} (hl : (l.map Prod.fst).Nodup)
    (h : (a, v) ∈ l) : l.lookup a = some v := by
  obtain ⟨l₁, l₂, rfl⟩ := List.append_of_mem h
  refine List.lookup_eq_some_iff.2 ⟨l₁, l₂, rfl, fun p hp => ?_⟩
  have hne : p.1 ≠ a := by
    rintro rfl
    rw [List.map_append, List.map_cons] at hl
    obtain ⟨-, -, hdisjoint⟩ := List.nodup_append.1 hl
    exact hdisjoint _ (List.mem_map_of_mem hp) _ (List.mem_cons_self ..) rfl
  simpa using Ne.symm hne

/-- The instruction of an added name, which the map gives the byte after ED. -/
theorem added_sound (hok : ops.ok = true) (h : ops.at rev op = some i) :
    WellFormed rev ops i = true ∧ encode ops i = [0xED, op] := by
  cases rev with
  | r3000 => cases h
  | r3000A =>
    obtain ⟨⟨n, b⟩, hfind, rfl⟩ := Option.map_eq_some_iff.1 h
    obtain rfl : b = op := by simpa using List.find?_some hfind
    obtain ⟨hfst, -, -⟩ := OpcodeMap.ok_iff.1 hok
    have hl : ops.lookup n = some b := lookup_of_mem hfst (List.mem_of_find?_eq_some hfind)
    have hname : n.instr.added = some n := by cases n <;> rfl
    have hE : n.instr.isLdEE = false := by cases n <;> rfl
    have henc : encode ops n.instr = ops.bytes n := by cases n <;> rfl
    exact ⟨by simp [WellFormed, OpcodeMap.names, hname, hE, hl], by rw [henc, OpcodeMap.bytes, hl]⟩

theorem decodeEd_sound (hok : ops.ok = true) (h : decodeEd rev ops bs = .ok (i, rest)) :
    WellFormed rev ops i = true ∧ encode ops i ++ rest = 0xED :: bs := by
  cases bs with
  | nil => cases h
  | cons op bs =>
    have hrows : ∀ row ∈ edRows, row.Sound rev ops (onPage [0xED]) op := by
      simp only [edRows, List.forall_mem_append]
      exact ⟨edRows0_sound, edRows1_sound⟩
    simp only [decodeEd] at h
    split at h
    next f _ hf =>
      obtain ⟨os, ⟨hwf, henc⟩, rfl⟩ := standsAt_of_findSome? hrows hf h
      exact ⟨hwf, by rw [henc, onPage_append, List.singleton_append]⟩
    next j _ hat =>
      obtain ⟨rfl, rfl⟩ : j = i ∧ bs = rest := by simpa using h
      obtain ⟨hwf, henc⟩ := added_sound hok hat
      exact ⟨hwf, by rw [henc]; rfl⟩
    next => cases h

/-- A page DD CB or FD CB, whose instructions all have the displacement. -/
theorem decodeCbPage_sound {page : String} {x d : Byte} (hrows : ∀ row ∈ rows, row.Sound rev ops (onCbPage x) op)
    (hdisp : ∀ row ∈ rows, ∀ f, row.form op = some f → ∃ k, f = .imm8 k)
    (h : decodePage rev page rows op (d :: bs) = .ok (i, rest)) :
    WellFormed rev ops i = true ∧ encode ops i ++ rest = x :: 0xCB :: d :: op :: bs := by
  obtain ⟨f, hf, hr⟩ := decodePage_eq_ok h
  obtain ⟨row, hmem, hsel⟩ := List.exists_of_findSome?_eq_some hf
  have hsound := hrows row hmem f hsel
  obtain ⟨k, rfl⟩ := hdisp row hmem f (OpRow.select_eq_some.1 hsel).2
  obtain ⟨rfl, rfl⟩ : k d = i ∧ bs = rest := by simpa using hr
  obtain ⟨hwf, henc⟩ := hsound d
  exact ⟨hwf, by rw [henc]; rfl⟩

/-- The pages DD and FD and, behind a further CB, the pages DD CB and FD CB. -/
theorem decodeIndexed_sound {page pageCb : String} {rowsCb : List OpRow} {x : Byte}
    (hrows : ∀ op, ∀ row ∈ rows, row.Sound rev ops (onPage [x]) op)
    (hcb : ∀ op, ∀ row ∈ rowsCb, row.Sound rev ops (onCbPage x) op)
    (hdisp : ∀ op, ∀ row ∈ rowsCb, ∀ f, row.form op = some f → ∃ k, f = .imm8 k)
    (h : decodeIndexed rev page pageCb rows rowsCb bs = .ok (i, rest)) :
    WellFormed rev ops i = true ∧ encode ops i ++ rest = x :: bs := by
  cases bs with
  | nil => cases h
  | cons op bs =>
    simp only [decodeIndexed] at h
    split at h
    next hop =>
      subst hop
      split at h
      · exact decodeCbPage_sound (hcb _) (hdisp _) h
      · cases h
    next => exact decodePage_sound (hrows op) h

theorem ddRows_sound : ∀ row ∈ ddRows, row.Sound rev ops (onPage [0xDD]) op := by
  simp only [ddRows, List.forall_mem_append]
  exact ⟨ddRows0_sound, ddRows1_sound⟩

theorem fdRows_sound : ∀ row ∈ fdRows, row.Sound rev ops (onPage [0xFD]) op := by
  simp only [fdRows, List.forall_mem_append]
  exact ⟨fdRows0_sound, fdRows1_sound⟩

theorem ddcbRows_imm8 : ∀ row ∈ ddcbRows, ∀ f, row.form op = some f → ∃ k, f = .imm8 k := by
  simp only [ddcbRows, ddcbRows0, List.forall_mem_cons, Option.some.injEq]
  simp [eq_comm]

theorem fdcbRows_imm8 : ∀ row ∈ fdcbRows, ∀ f, row.form op = some f → ∃ k, f = .imm8 k := by
  simp only [fdcbRows, fdcbRows0, List.forall_mem_cons, Option.some.injEq]
  simp [eq_comm]

theorem decodeAltd_sound (h : decodeAltd bs = (i, rest)) : WellFormed rev ops i = true ∧ encode ops i ++ rest = 0x76 :: bs := by
  have hwf : ∀ j ∈ [Instr.exDeaHla, .exDeHla, .altd], WellFormed rev ops j = true := by 
    cases rev <;> simp [WellFormed, Instr.only3000A, Instr.isLdEE, OpcodeMap.names, Instr.added]
  cases bs with
  | nil =>
    obtain ⟨rfl, rfl⟩ := Prod.mk.inj h
    exact ⟨hwf _ (by simp), rfl⟩
  | cons op bs =>
    simp only [decodeAltd] at h
    split at h
    next hop => subst hop; obtain ⟨rfl, rfl⟩ := Prod.mk.inj h; exact ⟨hwf _ (by simp), rfl⟩
    next =>
      split at h
      next hop => subst hop; obtain ⟨rfl, rfl⟩ := Prod.mk.inj h; exact ⟨hwf _ (by simp), rfl⟩
      next => obtain ⟨rfl, rfl⟩ := Prod.mk.inj h; exact ⟨hwf _ (by simp), rfl⟩

theorem decode_sound (hok : ops.ok = true) (h : decode rev ops bs = .ok (i, rest)) :
    WellFormed rev ops i = true ∧ encode ops i ++ rest = bs := by
  cases bs with
  | nil => cases h
  | cons b0 bs =>
    simp only [decode] at h
    split at h
    next hb => subst hb; exact decodeAltd_sound (Except.ok.inj h)
    next =>
      split at h
      next hb =>
        subst hb
        cases bs with
        | nil => cases h
        | cons op bs => exact decodePage_sound cbRows0_sound h
      next =>
        split at h
        next hb => subst hb; exact decodeEd_sound hok h
        next =>
          split at h
          next hb => subst hb; exact decodeIndexed_sound (fun _ => ddRows_sound) (fun _ => ddcbRows0_sound) (fun _ => ddcbRows_imm8) h
          next =>
            split at h
            next hb =>
              subst hb
              exact decodeIndexed_sound (fun _ => fdRows_sound) (fun _ => fdcbRows0_sound) (fun _ => fdcbRows_imm8) h
            next => exact decodeMain_sound h

end

/-- Settles O32: `decode_sound`, and the two bytes that the revision and the map decide. -/
theorem decodeSound : Obligations.DecodeSound :=
  ⟨fun _ _ _ _ _ hok h => decode_sound hok h,
    fun _ => ⟨decode_main (by decide) rfl (Form.read_done _ _), decode_main (by decide) rfl (Form.read_done _ _)⟩, rfl, rfl⟩

end Sys2Proof
end

section
/-! Words written out (`30_encoding.md` R126 to R131), by the page lemmas. -/
namespace Sys2Proof
open Sys2Proof.Machine

section
variable {rev : Rev} {ops : OpcodeMap} {rest : List Byte}

theorem decodePage_ne_ok {page : String} {rows : List OpRow} {op : Byte} (h : rows.findSome? (OpRow.select rev op) = none)
    (bs : List Byte) (p : Instr × List Byte) : decodePage rev page rows op bs ≠ .ok p := by
  simp [decodePage, h]

theorem OpRow.select_eq_none {row : OpRow} {b : Byte} (h : b &&& row.mask ≠ row.pattern) : row.select rev b = none :=
  if_neg fun hs => h hs.1

/-- A row of the pages DD CB and FD CB has low bits 110, and none is the byte 0x36 (`30_encoding.md` R130). -/
def OpRow.CbShaped (row : OpRow) : Prop :=
  row.mask.extractLsb' 0 3 = 7 ∧ row.pattern.extractLsb' 0 3 = 6 ∧ (0x36 : Byte) &&& row.mask ≠ row.pattern

theorem findSome?_eq_none_of_cbShaped {rows : List OpRow} (hrows : ∀ row ∈ rows, row.CbShaped) {op : Byte}
    (hop : op.extractLsb' 0 3 ≠ 6 ∨ op = 0x36) : rows.findSome? (OpRow.select rev op) = none := by
  refine List.findSome?_eq_none_iff.2 fun row hmem => OpRow.select_eq_none fun h => ?_
  obtain ⟨hmask, hpat, h36⟩ := hrows row hmem
  rcases hop with hlow | rfl
  · rw [← h, BitVec.extractLsb'_and, hmask] at hpat
    exact hlow ((BitVec.and_allOnes (x := op.extractLsb' 0 3)).symm.trans hpat)
  · exact h36 h

theorem ddcbRows_cbShaped : ∀ row ∈ ddcbRows, row.CbShaped := by
  unfold OpRow.CbShaped
  decide

theorem fdcbRows_cbShaped : ∀ row ∈ fdcbRows, row.CbShaped := by
  unfold OpRow.CbShaped
  decide

/-- An opcode byte of the pages CB, DD CB and FD CB together. -/
theorem decode_cbPages {op : Byte} {i : Instr} {ix iy : Byte → Instr}
    (hcb : cbRows.findSome? (OpRow.select rev op) = some (.done i))
    (hix : ddcbRows.findSome? (OpRow.select rev op) = some (.imm8 ix))
    (hiy : fdcbRows.findSome? (OpRow.select rev op) = some (.imm8 iy)) :
    decode rev ops ([0xCB, op] ++ rest) = .ok (i, rest) ∧ ∀ d, decode rev ops ([0xDD, 0xCB, d, op] ++ rest) = .ok (ix d, rest) ∧
      decode rev ops ([0xFD, 0xCB, d, op] ++ rest) = .ok (iy d, rest) :=
  ⟨decode_cb hcb (Form.read_done _ _), fun _ => ⟨decode_ddcb hix (Form.read_imm8 _ _ _), decode_fdcb hiy (Form.read_imm8 _ _ _)⟩⟩

end

/-- Settles O33: each word by the lemma of its page, each unassigned byte by the rows of its page. -/
theorem decodeWords : Obligations.DecodeWords := by
  refine ⟨fun rev ops => ?words, fun rev ops rest => ⟨?regs, ?shifts, ?bits, ?cb, ?indexed⟩⟩
  case words =>
    simp only [List.forall_mem_cons, List.not_mem_nil, false_imp_iff, implies_true, and_true]
    exact ⟨decode_main (by decide) rfl (Form.read_imm8 _ _ _), decode_main (by decide) rfl (Form.read_imm16 _ 0x1234 _),
      decode_dd (by decide) rfl (Form.read_imm8 _ _ _), decode_fd (by decide) rfl (Form.read_disp8imm8 _ _ _ _),
      decode_ed rfl (Form.read_done _ _), decode_main (by decide) rfl (Form.read_done _ _), decode_ed rfl (Form.read_done _ _),
      decode_main (by decide) rfl (Form.read_done _ _), decode_ddcb rfl (Form.read_imm8 _ _ _),
      decode_cb rfl (Form.read_done _ _), decode_main (by decide) rfl (Form.read_done _ _), decode_ed rfl (Form.read_done _ _),
      decode_main (by decide) rfl (Form.read_imm16imm8 _ 0xE000 _ _), decode_main (by decide) rfl (Form.read_imm8 _ _ _),
      decode_ed rfl (Form.read_done _ _)⟩
  case regs =>
    have hregs : ∀ r : R8, (∀ w ∈ ([(0, .rlcR), (1, .rrcR), (2, .rlR), (3, .rrR), (4, .slaR), (5, .sraR), (7, .srlR)] :
        List (BitVec 5 × (R8 → Instr))), decode rev ops ([0xCB, w.1 ++ r.code] ++ rest) = .ok (w.2 r, rest)) ∧
        ∀ b : BitVec 3, decode rev ops ([0xCB, 1#2 ++ b ++ r.code] ++ rest) = .ok (.bitBR b r, rest) ∧
          decode rev ops ([0xCB, 2#2 ++ b ++ r.code] ++ rest) = .ok (.resBR b r, rest) ∧
          decode rev ops ([0xCB, 3#2 ++ b ++ r.code] ++ rest) = .ok (.setBR b r, rest) := fun r => by
      constructor
      · simp only [List.forall_mem_cons, List.not_mem_nil, false_imp_iff, implies_true, and_true]
        cases r <;> exact ⟨decode_cb rfl (Form.read_done _ _), decode_cb rfl (Form.read_done _ _),
          decode_cb rfl (Form.read_done _ _), decode_cb rfl (Form.read_done _ _), decode_cb rfl (Form.read_done _ _),
          decode_cb rfl (Form.read_done _ _), decode_cb rfl (Form.read_done _ _)⟩
      · intro b
        cases b using bitSelect_cases <;> cases r <;> exact ⟨decode_cb rfl (Form.read_done _ _),
          decode_cb rfl (Form.read_done _ _), decode_cb rfl (Form.read_done _ _)⟩
    have hcode : ∀ x ∈ ([(0, .b), (1, .c), (2, .d), (3, .e), (4, .h), (5, .l), (7, .a)] : List (BitVec 3 × R8)),
        x.2.code = x.1 := by decide
    rintro ⟨c, r⟩ hx
    obtain rfl : r.code = c := hcode _ hx
    exact hregs r
  case shifts =>
    simp only [List.forall_mem_cons, List.not_mem_nil, false_imp_iff, implies_true, and_true]
    exact ⟨decode_cbPages rfl rfl rfl, decode_cbPages rfl rfl rfl, decode_cbPages rfl rfl rfl, decode_cbPages rfl rfl rfl,
      decode_cbPages rfl rfl rfl,
      decode_cbPages rfl rfl rfl, decode_cbPages rfl rfl rfl⟩
  case bits =>
    intro b
    simp only [List.forall_mem_cons, List.not_mem_nil, false_imp_iff, implies_true, and_true]
    cases b using bitSelect_cases <;> exact ⟨decode_cbPages rfl rfl rfl, decode_cbPages rfl rfl rfl, decode_cbPages rfl rfl rfl⟩
  case cb =>
    intro x p
    exact decodePage_ne_ok (by cases x using bitSelect_cases <;> rfl) _ _
  case indexed =>
    intro d op hop
    exact ⟨fun p => decodePage_ne_ok (findSome?_eq_none_of_cbShaped ddcbRows_cbShaped hop) _ _,
      fun p => decodePage_ne_ok (findSome?_eq_none_of_cbShaped fdcbRows_cbShaped hop) _ _⟩

end Sys2Proof
end

section
/-! Memory: the bank registers and the devices (`21_memory_interface.md` R90 to R96), what a data write leaves
(`20_memory.md` R64), write protection (R110) and the stack limits (R105). -/
namespace Sys2Proof.Machine

section
variable (s : State) (x : Bool) (pa : Phys) (a b : Word) (v : Byte)

/-! A data write and the bytes read after it -/

/-- A write that changes no cell. -/
theorem writeTargets_lost (m : List Host.Cell) {ts : List (Nat × Bool)} (h : ∀ c ∈ ts, c.2 = false) : writeTargets m v ts = m := by
  induction ts with
  | nil => rfl
  | cons t rest ih =>
    obtain ⟨k, w⟩ := t
    obtain rfl : w = false := h (k, w) List.mem_cons_self
    exact ih fun c hc => h c (List.mem_cons_of_mem _ hc)

/-- Where one device drives the bus, a write reaches the one cell that is read. -/
theorem State.physTargets_of_driven (h : s.physDriven x pa = true) :
    ∃ w, s.physTargets x pa = [(physCell s.cfg s.dev.mmu x pa, w)] := by
  obtain ⟨i, hi⟩ := List.length_eq_one_iff.1 (of_decide_eq_true h)
  refine ⟨s.writePulse x pa && decide (s.cfg.devices[i].kind = .ram), ?_⟩
  unfold State.physTargets physCell
  simp only [hi]
  rfl

/-- A data write changes nothing that the translation or the selection of devices reads. -/
theorem State.peek_memWrite (hw : s.writesLeft = none) : (s.memWrite a v).peek b =
    if s.physDriven (inXpcWindow s.dev.mmu b) (s.dataPhys b) then cellRead (s.memWrite a v).mem (s.dataCell b)
    else Config.freeByte s.dev.free := by
  have hdev : (s.memWrite a v).dev = s.noteWrite (s.dataPhys a) := by
    rw [State.memWrite, State.physWrite_dev, if_pos (s.writesGoOn_of_none hw)]
  unfold State.peek State.physByte State.physDriven State.dataCell State.dataPhys
  rw [hdev]
  rfl

theorem State.memWrite_mem (hw : s.writesLeft = none) : (s.memWrite a v).mem = writeTargets s.mem v (s.dataTargets a) :=
  if_pos (s.writesGoOn_of_none hw)

/-- Settles O39: the read after the write is of the cells the write leaves. -/
theorem writeReadsBack : Obligations.WriteReadsBack := by
  intro s a b v hwf hw
  refine ⟨fun h => ?back, fun h => ?other, fun h => ?lost⟩
  case back =>
    obtain ⟨hdriven, hall⟩ := Bool.and_eq_true_iff.1 h
    obtain ⟨w, ht⟩ := s.physTargets_of_driven _ _ hdriven
    have ht : s.dataTargets a = [(s.dataCell a, w)] := ht
    obtain rfl : w = true := by simpa [ht] using hall
    rw [s.peek_memWrite a a v hw, if_pos hdriven, s.memWrite_mem a v hw, ht]
    exact cellRead_cellWrite_self (lo := 0) v hwf
  case other =>
    rw [s.peek_memWrite a b v hw, s.memWrite_mem a v hw, cellRead_writeTargets_other _ _ _ h]
    rfl
  case lost =>
    rw [s.peek_memWrite a b v hw, s.memWrite_mem a v hw, writeTargets_lost v _ h]
    rfl

/-! Loads -/

/-- A data read where a device drives the bus. -/
theorem State.memRead_of_driven (h : s.physDriven (inXpcWindow s.dev.mmu a) (s.dataPhys a) = true) :
    s.memRead a = (cellRead s.mem (s.dataCell a), s) := by
  unfold State.memRead State.physRead State.physByte
  rw [if_pos h, if_pos h]
  rfl

/-- Settles O40. -/
theorem dataLoads : Obligations.DataLoads := by
  intro s a
  refine ⟨fun hm h => ?_, fun hm h h' => ?_, fun hi => ?_, fun he => ?_⟩
  · rw [State.load8_memory hm, s.memRead_of_driven a h]
  · have hlo : s.load8 a = (cellRead s.mem (s.dataCell a), s) := by rw [State.load8_memory hm, s.memRead_of_driven a h]
    have hhi : s.load8 (a + 1) = (cellRead s.mem (s.dataCell (a + 1)), s) := by
      rw [State.load8_memory hm, s.memRead_of_driven _ h']
    have ht : s.timeInside = s := by simp only [State.timeInside, hm]
    simp only [State.load16, hlo, ht, hhi]
    rfl
  · simp only [State.load8, hi, and_self]
  · simp only [State.load8, he, and_self]

/-! The bank register and the devices it selects -/

/-- The chip select a bank control names (`20_memory.md` R64). -/
def chipSelect (mb : Byte) : Fin 3 := if mb.toNat % 4 = 0 then 0 else if mb.toNat % 4 = 1 then 1 else 2

/-- The enable pair it names. -/
def enablePair (mb : Byte) : Fin 2 := if mb.getLsbD 2 then 1 else 0

/-- The device behind a chip select with an enable pair. -/
def deviceAt (c : Fin 3) (p : Fin 2) : Fin 6 := ⟨2 * c.val + p.val, by have := c.isLt; have := p.isLt; omega⟩

theorem bankControl_eq (m : Mmu) : bankControl m x pa = m.mbcr[if m.mecr.getLsbD 2 = true ∧ x = true then
    (m.mecr.extractLsb' 0 2).toFin else (pa.extractLsb' 18 2).toFin] := by
  have hc : (bit m.mecr 2 && x) = true ↔ m.mecr.getLsbD 2 = true ∧ x = true := Bool.and_eq_true_iff
  by_cases h : m.mecr.getLsbD 2 = true ∧ x = true
  · simp only [bankControl, if_pos h, if_pos (hc.2 h)]
    rfl
  · simp only [bankControl, if_neg h, if_neg (mt hc.1 h)]
    rfl

theorem deviceIndex_eq (mb : Byte) : deviceIndex mb = deviceAt (chipSelect mb) (enablePair mb) := by
  revert mb; decide

/-- The devices selected: the one named and, where MMIDR[4] forces /CS1 and another chip select is named, the one behind it. -/
theorem selectedDevices_eq (m : Mmu) (mb : Byte) : selectedDevices m mb =
    if m.mmidr.getLsbD 4 = true ∧ chipSelect mb ≠ 1 then [deviceAt (chipSelect mb) (enablePair mb), deviceAt 1 (enablePair mb)]
    else [deviceAt (chipSelect mb) (enablePair mb)] := by
  have hforced : (if bit mb 2 then (3 : Fin 6) else 2) = deviceAt 1 (enablePair mb) := by revert mb; decide
  have hne : ∀ (c : Fin 3) (p : Fin 2), deviceAt c p ≠ deviceAt 1 p ↔ c ≠ 1 := by decide
  unfold selectedDevices
  simp only [hforced, deviceIndex_eq, Bool.and_eq_true, decide_eq_true_eq, hne]
  rfl

theorem deviceAddr_toNat (mb : Byte) : (deviceAddr mb pa).toNat =
    (pa.toNat ^^^ (mb.toNat / 32 % 2 * 2 ^ 19)) ^^^ (mb.toNat / 16 % 2 * 2 ^ 18) := by
  have hbits : ((if bit mb 5 then 0x80000 else 0 : Phys) ||| (if bit mb 4 then 0x40000 else 0)).toNat =
      (mb.toNat / 32 % 2 * 2 ^ 19) ^^^ (mb.toNat / 16 % 2 * 2 ^ 18) := by revert mb; decide
  rw [deviceAddr, BitVec.toNat_xor, hbits, Nat.xor_assoc]

/-- One or two devices, of which some are there: the first, whether there is exactly one, and which. -/
theorem filter_selected {present : Fin 6 → Bool} {both : Prop} [Decidable both] (n f : Fin 6) :
    let l := (if both then [n, f] else [n]).filter present
    l.headD n = (if both ∧ ¬present n = true ∧ present f = true then f else n) ∧
    (l.length = 1 ↔ ¬(present n = true ↔ both ∧ present f = true)) ∧
    ∀ i, i ∈ l ↔ (i = n ∨ both ∧ i = f) ∧ present i = true := by
  refine ⟨?first, ?one, fun i => ?which⟩
  case which => by_cases hb : both <;> simp [hb]
  all_goals by_cases hb : both <;> cases hn : present n <;> cases hf : present f <;> simp [hb, hn, hf]

/-- Settles O38: the selection by `selectedDevices_eq`, the rest by which of the two devices are there. -/
theorem bankSelection : Obligations.BankSelection := by
  intro s x pa m q mb cs pair device both present seen cell pulse
  have hmb : bankControl m x pa = mb := bankControl_eq x pa m
  have hseen : (deviceAddr mb pa).toNat = seen := deviceAddr_toNat pa mb
  have hsel : selectedDevices m mb = if both then [device cs, device 1] else [device cs] := selectedDevices_eq m mb
  have hnamed : deviceIndex mb = device cs := deviceIndex_eq mb
  have hcell : ∀ i, cellKey s.cfg i (deviceAddr mb pa) = cell i := fun i => by
    simp only [cellKey, hseen]
    rfl
  have hpresent : presentDevices s.cfg m mb = (if both then [device cs, device 1] else [device cs]).filter
      fun i => decide (s.cfg.devices[i].kind ≠ .absent) := by rw [← hsel]; rfl
  obtain ⟨hfirst, hone, hwhich⟩ := filter_selected (present := fun i => decide (s.cfg.devices[i].kind ≠ .absent)) (both := both)
    (device cs) (device 1)
  rw [← hpresent] at hfirst hone hwhich
  simp only [decide_eq_true_eq] at hfirst hone hwhich
  refine ⟨?_, ?_, fun c => ?_⟩
  · show cellKey s.cfg ((presentDevices s.cfg m (bankControl m x pa)).headD (deviceIndex (bankControl m x pa)))
      (deviceAddr (bankControl m x pa) pa) = _
    rw [hmb, hnamed, hfirst, hcell]
  · show decide ((presentDevices s.cfg m (bankControl m x pa)).length = 1) = true ↔ _
    rw [hmb, decide_eq_true_eq]
    exact hone
  · have hpulse : s.writePulse x pa = decide pulse := by
      have : bankControl s.dev.mmu x pa = mb := hmb
      simp only [State.writePulse, this, bit, pulse, Bool.decide_and, Bool.decide_eq_false]
    show c ∈ (presentDevices s.cfg m (bankControl m x pa)).map _ ↔ _
    rw [hmb, List.mem_map]
    refine exists_congr fun i => ?_
    rw [hwhich, hcell, hpulse, ← Bool.decide_and, and_assoc, eq_comm (b := c)]

/-! Write protection -/

/-- A register pair as one 16-bit register. -/
theorem pairBit_eq (lo hi : Byte) (k : Nat) : pairBit lo hi k = (hi ++ lo).getLsbD k := by
  rw [BitVec.getLsbD_append]
  rfl

theorem State.physProtected_iff : s.physProtected pa = true ↔
    (s.cfg.rev = .r3000A ∧ (s.dev.mmu.wpcr.getLsbD 0 = true ∨ s.userMode = true)) ∧
    ((s.dev.mmu.wphr ++ s.dev.mmu.wplr).getLsbD (pa.toNat / 65536) = true ∨
      ∃ k : Fin 2, pa.toNat / 65536 = s.dev.mmu.wpsr[k].toNat % 16 ∧
        (s.dev.mmu.wpshr[k] ++ s.dev.mmu.wpslr[k]).getLsbD (pa.toNat / 4096 % 16) = true) := by
  have hblk : (pa.extractLsb' 16 4).toNat = pa.toNat / 65536 := by
    have := pa.isLt
    simp only [BitVec.extractLsb'_toNat, Nat.shiftRight_eq_div_pow]
    omega
  have hpg : (pa.extractLsb' 12 4).toNat = pa.toNat / 4096 % 16 := by
    simp only [BitVec.extractLsb'_toNat, Nat.shiftRight_eq_div_pow]
  have hlow : ∀ y : Byte, (y.extractLsb' 0 4).toNat = y.toNat % 16 := fun y => by
    simp only [BitVec.extractLsb'_toNat, Nat.shiftRight_zero]
  simp only [State.physProtected, State.protectActive, writeProtected, hblk, hpg, hlow, pairBit_eq, bit, Bool.and_eq_true,
    Bool.or_eq_true, decide_eq_true_eq, Fin.exists_fin_two, or_assoc]
  rfl

/-- Settles O41: `physProtected` is the protection the statement writes out, and the pulse needs its absence. -/
theorem writeProtection : Obligations.WriteProtection := by
  intro s w pa v
  refine ⟨fun hw h => ?_, fun h => ?_⟩
  · have hp : s.physProtected pa = true := (s.physProtected_iff pa).2 h
    have hlost : writeTargets s.mem v (s.physTargets w pa) = s.mem := writeTargets_lost v _ fun c hc => by
      obtain ⟨i, -, rfl⟩ := List.mem_map.1 hc
      simp [State.writePulse, hp]
    have hgo := s.writesGoOn_of_none hw
    simp only [State.physWrite, if_pos hgo, hlost, State.oneWriteLess_of_none hw, State.noteWrite, hp, Bool.or_true, ← hw]
  · have hp : s.physProtected pa = false := Bool.eq_false_iff.2 fun hp => h ((s.physProtected_iff pa).1 hp)
    rw [State.physWrite_dev]
    split
    · simp only [State.noteWrite, hp, Bool.or_false]
    · rfl

/-! The stack limits -/

theorem State.checkStack_iff : (s.checkStack a).dev.viol.stackLimit = true ↔ s.dev.viol.stackLimit = true ∨
    (s.cfg.rev = .r3000A ∧ (s.dev.mmu.stkcr.getLsbD 0 = true ∨ s.userMode = true)) ∧
    (a.toNat < s.dev.mmu.stkllr.toNat * 256 + 16 ∨ (s.dev.mmu.stkhlr.toNat * 256 + 65536 - 17) % 65536 < a.toNat) := by
  have hlow : a < word s.dev.mmu.stkllr 0x10 ↔ a.toNat < s.dev.mmu.stkllr.toNat * 256 + 16 := by
    rw [BitVec.lt_def, word, toNat_append_eq]
    rfl
  have hhigh : word s.dev.mmu.stkhlr 0x00 - 0x11 < a ↔ (s.dev.mmu.stkhlr.toNat * 256 + 65536 - 17) % 65536 < a.toNat := by
    rw [BitVec.lt_def, BitVec.toNat_sub, word, toNat_append_eq]
    have : (2 ^ 16 - (0x11 : Word).toNat + (s.dev.mmu.stkhlr.toNat * 2 ^ 8 + (0x00 : Byte).toNat)) % 2 ^ 16 =
        (s.dev.mmu.stkhlr.toNat * 256 + 65536 - 17) % 65536 := by
      have h11 : (0x11 : Word).toNat = 17 := rfl
      have h00 : (0x00 : Byte).toNat = 0 := rfl
      omega
    rw [this]
  simp only [State.checkStack, State.stackChecked, stackOutside, hlow, hhigh, bit, Bool.or_eq_true, Bool.and_eq_true,
    decide_eq_true_eq]

theorem State.memWrite_stackLimit : (s.memWrite a v).dev.viol.stackLimit = s.dev.viol.stackLimit := by
  rw [State.memWrite, State.physWrite_dev]
  split <;> rfl

theorem State.memRead_viol : (s.memRead a).2.dev.viol = s.dev.viol := by
  obtain ⟨n, hn⟩ := s.memRead_free a
  rw [hn]

/-- Settles O42: the check of the limits comes before the access and only requests. -/
theorem stackLimits : Obligations.StackLimits := by
  intro s a v
  refine ⟨⟨rfl, ?_⟩, rfl, ?_⟩
  · rw [State.stackRead, State.memRead_viol]
    exact s.checkStack_iff a
  · rw [State.stackWrite, State.memWrite_stackLimit]
    exact s.checkStack_iff a

end

end Sys2Proof.Machine
end

section
/-! Internal I/O by address (`20_memory.md` R52, R73; `11_io_register_map.md`), what clears each interrupt request
(`60_exceptions.md` R635), and what a reset leaves (`10_state.md` R40). -/
namespace Sys2Proof.Machine

section
variable {cfg : Params} {d e : Dev} {a : Word} {v : Byte} {r : IoReg}

/-! Locations -/

theorem loByte_toNat (a : Word) : (loByte a).toNat = a.toNat % 256 := by
  simp only [loByte, BitVec.extractLsb'_toNat, Nat.shiftRight_zero]

/-- Eight bits are decoded. -/
theorem decodeIo_low {rev : Rev} {m : Mmu} (h : rev = .r3000 ∨ m.mmidr.getLsbD 7 = false) (a : Word) :
    decodeIo rev m a = a.toNat % 256 := by
  rw [← loByte_toNat]
  cases rev with
  | r3000 => rfl
  | r3000A =>
    have h7 : bit m.mmidr 7 = false := h.resolve_left (by decide)
    exact if_neg (by rw [h7]; decide)

/-- All sixteen bits are decoded. -/
theorem decodeIo_full {m : Mmu} (h : m.mmidr.getLsbD 7 = true) (a : Word) : decodeIo .r3000A m a = a.toNat := if_pos h

theorem catchEdges_self (rev : Rev) (d : Dev) : catchEdges rev d d = d := by
  simp [catchEdges, ExtInt.watch_self]

/-- A location both revisions have. -/
theorem ofAddr_both {a : Nat} (h : IoReg.ofAddr .r3000 a = some r) (hA : IoReg.ofAddr .r3000A a = some r) (rev : Rev) :
    IoReg.ofAddr rev a = some r := by
  cases rev with
  | r3000 => exact h
  | r3000A => exact hA

/-- What a System-mode write stores, before the interrupt catchers look. -/
theorem ioWriteInternal_of_writeReg (hloc : IoReg.ofAddr cfg.rev (decodeIo cfg.rev d.mmu a) = some r)
    (hw : writeReg cfg d r v = .ok e) : ioWriteInternal cfg false d a v =
      .ok (catchEdges cfg.rev d (portABug cfg.rev (decodeIo cfg.rev d.mmu a) v e)) := by
  simp [ioWriteInternal, writeLocation, hloc, hw, Except.map]

theorem ioWriteInternal_of_ofAddr (ha : a.toNat < 0x100) (hr : IoReg.ofAddr cfg.rev a.toNat = some r)
    (hw : writeReg cfg d r v = .ok e) :
    ioWriteInternal cfg false d a v = .ok (catchEdges cfg.rev d (portABug cfg.rev a.toNat v e)) := by
  have hdec := decodeIo_of_lt cfg.rev d.mmu ha
  rw [ioWriteInternal_of_writeReg (hdec.symm ▸ hr) hw, hdec]

/-- Settles O43: the decoded location is the low byte, or all of the address. -/
theorem internalIoLocations : Obligations.InternalIoLocations := by
  intro cfg user d a b v
  refine ⟨fun h hab => ?low, fun hrev h7 => ⟨?edmr, fun hnone => ?unoccupied⟩⟩
  case low =>
    have hloc : decodeIo cfg.rev d.mmu a = decodeIo cfg.rev d.mmu b := by rw [decodeIo_low h, decodeIo_low h, hab]
    unfold ioReadInternal ioWriteInternal
    rw [hloc]
    exact ⟨rfl, rfl⟩
  case edmr =>
    have hdec : decodeIo cfg.rev d.mmu 0x0420 = 0x420 := by rw [hrev]; exact decodeIo_full h7 _
    have hr : IoReg.ofAddr cfg.rev (decodeIo cfg.rev d.mmu 0x0420) = some .edmr := by rw [hdec, hrev]; rfl
    refine ⟨_, ioWriteInternal_of_writeReg (v := 1) hr rfl, ?_⟩
    rw [hrev]
    show bit 1 0 = true
    decide
  case unoccupied =>
    have hdec : decodeIo cfg.rev d.mmu a = a.toNat := by rw [hrev]; exact decodeIo_full h7 a
    have hloc : writeLocation cfg d a.toNat v = .ok d := by
      unfold writeLocation
      rw [hrev, hnone]
      rfl
    unfold ioWriteInternal
    simp only [hdec, hloc]
    split
    · rfl
    · exact congrArg Except.ok (catchEdges_self cfg.rev d)

end

/-! Requests -/

section
variable {cfg : Params} {d : Dev}

/-- What one register's read leaves of the devices. -/
theorem afterRead_of_ofAddr {a : Word} {r : IoReg} (ha : a.toNat < 0x100) (h : IoReg.ofAddr .r3000 a.toNat = some r)
    (hA : IoReg.ofAddr .r3000A a.toNat = some r) : (ioReadInternal cfg false d a).2 = (readReg cfg d r).2 := by
  rw [ioReadInternal_of_ofAddr ha (ofAddr_both h hA cfg.rev)]

theorem portABug_state (rev : Rev) (a : Nat) (v : Byte) (e : Dev) : ∃ p, portABug rev a v e = { e with slave := p } := by
  cases rev with
  | r3000 =>
    by_cases h : 0x31 ≤ a ∧ a ≤ 0x3F
    · exact ⟨_, if_pos h⟩
    · exact ⟨e.slave, if_neg h⟩
  | r3000A => exact ⟨e.slave, rfl⟩

/-- Beyond the register written, a write can reach the slave port (R925) and the external interrupt catchers alone. -/
theorem afterWrite_eq (rev : Rev) (a : Nat) (v : Byte) (e : Dev) : ∃ p x y, catchEdges rev d (portABug rev a v e) =
    { e with slave := p, int0 := x, int1 := y } := by
  obtain ⟨p, hp⟩ := portABug_state rev a v e
  rw [hp]
  exact ⟨p, _, _, rfl⟩

/-- A write that leaves what is asked of the devices, whatever becomes of the slave port and the external interrupts. -/
theorem written_of_ofAddr {a : Word} {v : Byte} {r : IoReg} {ok : Dev → Prop} {e : Dev} (ha : a.toNat < 0x100)
    (h : IoReg.ofAddr .r3000 a.toNat = some r) (hA : IoReg.ofAddr .r3000A a.toNat = some r)
    (hw : writeReg cfg d r v = .ok e) (hok : ∀ p x y, ok { e with slave := p, int0 := x, int1 := y }) :
    ∃ e, ioWriteInternal cfg false d a v = .ok e ∧ ok e := by
  refine ⟨_, ioWriteInternal_of_ofAddr ha (ofAddr_both h hA cfg.rev) hw, ?_⟩
  obtain ⟨p, x, y, he⟩ := afterWrite_eq cfg.rev a.toNat v e
  rw [he]
  exact hok p x y

/-- The acknowledge clears its own source's violation request or catchers, and nothing of another source. -/
theorem pending_acknowledge (d : Dev) (src other : IntSource) : other.pending (acknowledge d src) =
    (other.pending d && !(decide (other = src) &&
      decide (src ∈ ([.systemMode, .stackLimit, .writeProtect, .external0, .external1] : List IntSource)))) := by
  by_cases hmem : src ∈ ([.systemMode, .stackLimit, .writeProtect, .external0, .external1] : List IntSource)
  · simp only [hmem, decide_true, Bool.and_true]
    by_cases he : other = src
    · subst he
      simp only [List.mem_cons, List.not_mem_nil, or_false] at hmem
      rcases hmem with rfl | rfl | rfl | rfl | rfl <;> simp [IntSource.pending, acknowledge]
    · simp only [he, decide_false, Bool.not_false, Bool.and_true]
      simp only [List.mem_cons, List.not_mem_nil, or_false] at hmem
      rcases hmem with rfl | rfl | rfl | rfl | rfl <;> cases other <;> first | rfl | exact absurd rfl he
  · have hsame : acknowledge d src = d := by cases src <;> first | rfl | simp at hmem
    simp [hsame, hmem]

/-- A location both revisions have is this register's. -/
def LocationOf (a : Word) (r : IoReg) : Prop :=
  IoReg.ofAddr .r3000 a.toNat = some r ∧ IoReg.ofAddr .r3000A a.toNat = some r

/-- A read of SxDR or SxAR that empties the buffer leaves the transmitter's request; a write of SxSR clears that one. -/
theorem serialRequest_cleared {id : SerialId} {base : Word} (hdr : LocationOf (base + 0) (.serial id .dr))
    (har : LocationOf (base + 1) (.serial id .ar)) (hsr : LocationOf (base + 3) (.serial id .sr))
    (hlt : (base + 0).toNat < 0x100 ∧ (base + 1).toNat < 0x100 ∧ (base + 3).toNat < 0x100) :
    ((d.ser id).rxWait = [] → (IntSource.serial id).pending (ioReadInternal cfg false d (base + 0)).2 = (d.ser id).txReq ∧
      (IntSource.serial id).pending (ioReadInternal cfg false d (base + 1)).2 = (d.ser id).txReq) ∧
    ∀ v, ∃ e, ioWriteInternal cfg false d (base + 3) v = .ok e ∧ (e.ser id).txReq = false ∧
      (e.ser id).txd = (d.ser id).txd := by
  obtain ⟨hlt0, hlt1, hlt3⟩ := hlt
  refine ⟨fun hw => ⟨?_, ?_⟩, fun v => written_of_ofAddr hlt3 hsr.1 hsr.2 rfl fun _ _ _ => ?_⟩
  · rw [afterRead_of_ofAddr hlt0 hdr.1 hdr.2]
    exact serialRead_request d id false hw
  · rw [afterRead_of_ofAddr hlt1 har.1 har.2]
    exact serialRead_request d id true hw
  · have hs : (serialStatusWrite d id).ser id = { d.ser id with txReq := false } := by simp [serialStatusWrite, Dev.ser, Dev.setSer]
    show ((serialStatusWrite d id).ser id).txReq = false ∧ ((serialStatusWrite d id).ser id).txd = _
    rw [hs]
    exact ⟨rfl, rfl⟩

/-- Settles O45: each access by its register, the acknowledge by its source. -/
theorem requestsCleared : Obligations.RequestsCleared := by
  intro cfg d after written
  refine ⟨?periodic, ?quad, ?timerB, ?timerA, ?capture, ?slaveRead, ?slaveWrite, ?pwm, ?watchdog, ?serial, pending_acknowledge d,
    fun p v => ⟨rfl, rfl, rfl⟩⟩
  case periodic =>
    have h : after 0x00 = _ := afterRead_of_ofAddr (r := .gcsr) (by decide) rfl rfl
    rw [h]
    exact ⟨rfl, rfl⟩
  case quad =>
    have h : after 0x90 = _ := afterRead_of_ofAddr (r := .qdcsr) (by decide) rfl rfl
    rw [h]
    rfl
  case timerB =>
    have h : after 0xB0 = _ := afterRead_of_ofAddr (r := .tbcsr) (by decide) rfl rfl
    rw [h]
    rfl
  case timerA =>
    have h : after 0xA0 = _ := afterRead_of_ofAddr (r := .tacsr) (by decide) rfl rfl
    rw [h]
    simp [IntSource.pending, readReg, partly]
  case capture =>
    have h : after 0x56 = _ := afterRead_of_ofAddr (r := .iccsr) (by decide) rfl rfl
    rw [h]
    simp [IntSource.pending, readReg, partly]
  case slaveRead =>
    have h : ∀ n : Fin 3, IntSource.slave.pending (after (0x20 + BitVec.ofNat 16 n.val)) = false := fun n =>
      congrArg (fun x : Byte × Dev => x.2.slave.req) (ioReadInternal_spd cfg d n)
    simp only [List.forall_mem_cons, List.not_mem_nil, false_imp_iff, implies_true, and_true]
    exact ⟨h 0, h 1, h 2⟩
  case slaveWrite =>
    have h : ∀ (n : Fin 3) (v : Byte), written (0x20 + BitVec.ofNat 16 n.val) v fun e => IntSource.slave.pending e = false :=
      fun n v => ⟨_, ioWriteInternal_spd cfg d v n, rfl⟩
    simp only [List.forall_mem_cons, List.not_mem_nil, false_imp_iff, implies_true, and_true]
    exact ⟨h 0, h 1, h 2, fun v => ⟨_, ioWriteInternal_spsr cfg d v, rfl⟩⟩
  case pwm =>
    have low : ∀ {a : Word} {v : Byte} (k : Fin 4), a.toNat < 0x100 → IoReg.ofAddr .r3000 a.toNat = some (.pwl k) →
        IoReg.ofAddr .r3000A a.toNat = some (.pwl k) → written a v fun e => IntSource.pwm.pending e = false :=
      fun _ ha h hA => written_of_ofAddr ha h hA rfl fun _ _ _ => rfl
    have high : ∀ {a : Word} {v : Byte} (k : Fin 4), a.toNat < 0x100 → IoReg.ofAddr .r3000 a.toNat = some (.pwm k) →
        IoReg.ofAddr .r3000A a.toNat = some (.pwm k) → written a v fun e => IntSource.pwm.pending e = false :=
      fun _ ha h hA => written_of_ofAddr ha h hA rfl fun _ _ _ => rfl
    simp only [List.forall_mem_cons, List.not_mem_nil, false_imp_iff, implies_true, and_true]
    exact ⟨fun _ => low 0 (by decide) rfl rfl, fun _ => high 0 (by decide) rfl rfl, fun _ => low 1 (by decide) rfl rfl,
      fun _ => high 1 (by decide) rfl rfl, fun _ => low 2 (by decide) rfl rfl, fun _ => high 2 (by decide) rfl rfl,
      fun _ => low 3 (by decide) rfl rfl, fun _ => high 3 (by decide) rfl rfl⟩
  case watchdog =>
    intro hrev
    refine written_of_ofAddr (r := .wdtcr) (by decide) rfl rfl rfl fun _ _ _ => ?_
    show (Watchdog.control cfg.rev d.wdt 0x5F).swdReq = false
    rw [hrev]
    rfl
  case serial =>
    simp only [List.forall_mem_cons, List.not_mem_nil, false_imp_iff, implies_true, and_true]
    refine ⟨?_, ?_, ?_, ?_, ?_, ?_⟩ <;> exact serialRequest_cleared ⟨rfl, rfl⟩ ⟨rfl, rfl⟩ ⟨rfl, rfl⟩ (by decide)

end

/-! Reset -/

/-- After a reset no source requests (`60_exceptions.md` R605). -/
theorem pending_atReset (rev : Rev) (fill : Nat → Byte) (cause : BitVec 2) (period : BitVec 17) (old : Dev) (x : IntSource) :
    x.pending (Dev.atReset rev fill cause period old) = false := by
  cases x with
  | serial p =>
    obtain ⟨k, hk⟩ : ∃ k, (Dev.atReset rev fill cause period old).ser p = resetSerial p.hdlc fill k := by
      cases p <;> exact ⟨_, rfl⟩
    show serialRequest _ p = false
    unfold serialRequest
    rw [hk]
    exact (Bool.or_false _).trans (ite_self false)
  | timerA | capture => exact decide_eq_false (Classical.not_not.2 BitVec.zero_and)
  | _ => rfl

/-- What O52 states of one state. -/
def ResetClean (t : State) : Prop := t.cpu.sp = 0 ∧ t.cpu.pc = 0 ∧ t.cpu.iir = 0 ∧ t.cpu.eir = 0 ∧ t.cpu.ip = 0xFF ∧
  t.cpu.su.extractLsb' 0 2 = 0 ∧ t.cpu.altd = false ∧ t.cpu.iospace = .memory ∧ t.cpu.defer = false ∧
  t.dev.user.edmr = 0 ∧ ∀ x : IntSource, x.pending t.dev = false

theorem warmReset_clean (s : State) (cause : BitVec 2) (period : BitVec 17) : ResetClean (s.warmReset cause period) := by
  have hsu : (s.dev.fill 150 &&& 0xFC).extractLsb' 0 2 = 0 := by
    rw [BitVec.extractLsb'_and]
    exact BitVec.and_zero
  exact ⟨rfl, rfl, rfl, rfl, rfl, hsu, rfl, rfl, rfl, rfl, pending_atReset _ _ _ _ _⟩

/-- Settles O52: a reset of the machine, running or inside a step, is `warmReset`. -/
theorem resetValues : Obligations.ResetValues :=
  ⟨⟨rfl, rfl, rfl, rfl, rfl, rfl, rfl, rfl, rfl, rfl, pending_atReset _ _ _ _ _⟩, fun s cause period =>
    ⟨warmReset_clean s cause period, rfl, rfl, fun k u h => by
      obtain ⟨w, -, rfl⟩ := State.resetInside_next h
      exact warmReset_clean w 3 0x10000⟩⟩

end Sys2Proof.Machine
end

section
/-! Interrupts: which source the acceptance test takes (`60_exceptions.md` R610, R611), the vectors (R630) and the entry
(R620). -/
namespace Sys2Proof.Machine

/-! The first of a list -/

/-- What `find?` finds stands before everything else that it could find. -/
theorem idxOf_le_of_find? {α : Type} [DecidableEq α] {p : α → Bool} {l : List α} {x : α} (h : l.find? p = some x) :
    ∀ y ∈ l, p y = true → l.idxOf x ≤ l.idxOf y := by
  induction l with
  | nil => cases h
  | cons a rest ih =>
    intro y hy hpy
    by_cases hx : a = x
    · simp [hx]
    · have hpa : p a = false := by
        refine Bool.eq_false_iff.2 fun hpa => ?_
        rw [List.find?_cons_of_pos hpa] at h
        exact hx (Option.some.inj h)
      have hya : a ≠ y := by
        rintro rfl
        rw [hpy] at hpa
        cases hpa
      rw [List.find?_cons_of_neg (by simp [hpa])] at h
      simp only [List.idxOf_cons, beq_false_of_ne hx, beq_false_of_ne hya, cond_false]
      exact Nat.succ_le_succ (ih h y ((List.mem_cons.1 hy).resolve_left (Ne.symm hya)) hpy)

/-- The places of a list tell its elements apart. -/
theorem eq_of_idxOf_eq {α : Type} [DecidableEq α] {l : List α} {x y : α} (hx : x ∈ l) (hy : y ∈ l)
    (h : l.idxOf x = l.idxOf y) : x = y := by
  have hxl := List.idxOf_lt_length_of_mem hx
  have hyl := List.idxOf_lt_length_of_mem hy
  calc x = l[l.idxOf x] := (List.getElem_idxOf hxl).symm
    _ = l[l.idxOf y] := by simp only [h]
    _ = y := List.getElem_idxOf hyl

/-! The acceptance test -/

section
variable {cfg : Params} {d : Dev} {cur : BitVec 2}

theorem IntSource.mem_order (x : IntSource) : x ∈ IntSource.order := by
  cases x with
  | serial p => cases p <;> decide
  | _ => decide

/-- The first candidate of a priority. -/
theorem candidateAt_eq_some {p : BitVec 2} {x : IntSource} (h : candidateAt cfg d cur p = some x) :
    x.candidate cfg d cur = true ∧ x.prio cfg d = p ∧
      ∀ y : IntSource, y.candidate cfg d cur = true → y.prio cfg d = p → IntSource.order.idxOf x ≤ IntSource.order.idxOf y := by
  have hx := List.find?_some h
  rw [Bool.and_eq_true, decide_eq_true_eq] at hx
  exact ⟨hx.1, hx.2, fun y hy hp => idxOf_le_of_find? h y y.mem_order (by rw [hy, hp]; simp)⟩

theorem candidateAt_eq_none {p : BitVec 2} (h : candidateAt cfg d cur p = none) (y : IntSource)
    (hy : y.candidate cfg d cur = true) : y.prio cfg d ≠ p := by
  have hno := List.find?_eq_none.1 h y y.mem_order
  simpa [hy] using hno

/-- A source of the highest priority among the candidates, and of these the first in the manual's order. -/
def IsSelected (cfg : Params) (d : Dev) (cur : BitVec 2) (x : IntSource) : Prop := x.candidate cfg d cur = true ∧
  ∀ y : IntSource, y.candidate cfg d cur = true → (y.prio cfg d).toNat < (x.prio cfg d).toNat ∨
    ((y.prio cfg d).toNat = (x.prio cfg d).toNat ∧ IntSource.order.idxOf x ≤ IntSource.order.idxOf y)

/-- Where no candidate has a higher priority, the first of this one is selected. -/
theorem isSelected_of_candidateAt {p : BitVec 2} {x : IntSource} (h : candidateAt cfg d cur p = some x)
    (hle : ∀ y : IntSource, y.candidate cfg d cur = true → (y.prio cfg d).toNat ≤ p.toNat) : IsSelected cfg d cur x := by
  obtain ⟨hx, rfl, hfirst⟩ := candidateAt_eq_some h
  refine ⟨hx, fun y hy => ?_⟩
  rcases Nat.lt_or_eq_of_le (hle y hy) with hlt | heq
  · exact .inl hlt
  · exact .inr ⟨heq, hfirst y hy (BitVec.eq_of_toNat_eq heq)⟩

theorem selectInterrupt_eq_some {x : IntSource} (h : selectInterrupt cfg d cur = some x) : IsSelected cfg d cur x := by
  have h3 : ∀ y : IntSource, (y.prio cfg d).toNat ≤ 3 := fun y => Nat.le_of_lt_succ (y.prio cfg d).isLt
  have below : ∀ {p q : BitVec 2}, q.toNat + 1 = p.toNat → candidateAt cfg d cur p = none →
      (∀ y : IntSource, y.candidate cfg d cur = true → (y.prio cfg d).toNat ≤ p.toNat) →
      ∀ y : IntSource, y.candidate cfg d cur = true → (y.prio cfg d).toNat ≤ q.toNat := fun hpq hnone hle y hy => by
    have hne : (y.prio cfg d).toNat ≠ _ := fun he => candidateAt_eq_none hnone y hy (BitVec.eq_of_toNat_eq he)
    have := hle y hy
    omega
  rcases Option.or_eq_some_iff.1 h with h | ⟨n3, h⟩
  · exact isSelected_of_candidateAt h fun y _ => h3 y
  · have h2 := below (q := 2) rfl n3 fun y _ => h3 y
    rcases Option.or_eq_some_iff.1 h with h | ⟨n2, h⟩
    · exact isSelected_of_candidateAt h h2
    · exact isSelected_of_candidateAt h (below (q := 1) rfl n2 h2)

theorem selectInterrupt_eq_none : selectInterrupt cfg d cur = none ↔ ∀ x : IntSource, ¬x.candidate cfg d cur = true := by
  constructor
  · intro h x hx
    obtain ⟨n3, h⟩ := Option.or_eq_none_iff.1 h
    obtain ⟨n2, n1⟩ := Option.or_eq_none_iff.1 h
    have hpos : cur < x.prio cfg d := of_decide_eq_true (Bool.and_eq_true_iff.1 hx).2
    have hall : ∀ c p : BitVec 2, c < p → p = 3 ∨ p = 2 ∨ p = 1 := by decide
    rcases hall cur _ hpos with hp | hp | hp
    · exact candidateAt_eq_none n3 x hx hp
    · exact candidateAt_eq_none n2 x hx hp
    · exact candidateAt_eq_none n1 x hx hp
  · intro h
    cases hs : selectInterrupt cfg d cur with
    | none => rfl
    | some x => exact absurd (selectInterrupt_eq_some hs).1 (h x)

/-- Only one source is selected: the order tells equals apart. -/
theorem IsSelected.unique {x y : IntSource} (hx : IsSelected cfg d cur x) (hy : IsSelected cfg d cur y) : x = y := by
  have hrank : IntSource.order.idxOf x = IntSource.order.idxOf y := by
    have h1 := hx.2 y hy.1
    have h2 := hy.2 x hx.1
    omega
  exact eq_of_idxOf_eq x.mem_order y.mem_order hrank

theorem selectInterrupt_iff {x : IntSource} : selectInterrupt cfg d cur = some x ↔ IsSelected cfg d cur x := by
  refine ⟨selectInterrupt_eq_some, fun hx => ?_⟩
  cases hs : selectInterrupt cfg d cur with
  | none => exact absurd hx.1 (selectInterrupt_eq_none.1 hs x)
  | some y => exact congrArg some ((selectInterrupt_eq_some hs).unique hx)

end

/-- A candidate at a boundary, over the naturals. -/
theorem candidate_iff (s : State) (x : IntSource) : x.candidate s.cfg s.dev (field2 s.cpu.ip 0) = true ↔
    x.pending s.dev = true ∧ s.cpu.ip.toNat % 4 < (x.prio s.cfg s.dev).toNat := by
  have hcur : (field2 s.cpu.ip 0).toNat = s.cpu.ip.toNat % 4 := by
    rw [field2, BitVec.extractLsb'_toNat, Nat.shiftRight_zero]
  rw [IntSource.candidate, Bool.and_eq_true, decide_eq_true_eq, BitVec.lt_def, hcur]

/-- The demotion of a source assigned to User mode. -/
theorem prio_toNat (cfg : Params) (d : Dev) (x : IntSource) : (x.prio cfg d).toNat =
    if (x.field d).toNat = 3 ∧ (∃ k, x.userIndex = some k ∧ userEnabled cfg d k = true) then 2 else (x.field d).toNat := by
  have h3 : (x.field d).toNat = 3 ↔ x.field d = 3 := BitVec.toNat_inj (x := x.field d) (y := 3)
  unfold IntSource.prio
  cases hk : x.userIndex with
  | none => simp
  | some k =>
    by_cases hc : x.field d = 3 ∧ userEnabled cfg d k = true
    · simp [hc]
    · rw [not_and] at hc
      by_cases hf : x.field d = 3 <;> simp_all

/-- Settles O46: `selectInterrupt_iff` at the boundary. -/
theorem selectionOrder : Obligations.SelectionOrder := by
  intro s
  have hdue : s.interruptDue = if s.cpu.defer then none else selectInterrupt s.cfg s.dev (field2 s.cpu.ip 0) := rfl
  refine ⟨fun x => ?_, ?_, ?_, fun x => prio_toNat s.cfg s.dev x⟩
  · rw [hdue]
    cases s.cpu.defer with
    | true => simp
    | false =>
      simp only [Bool.false_eq_true, if_false, true_and, selectInterrupt_iff, IsSelected, candidate_iff]
  · rw [hdue]
    cases s.cpu.defer with
    | true => simp
    | false =>
      simp only [Bool.false_eq_true, if_false, false_or, selectInterrupt_eq_none, candidate_iff]
  · simp only [List.forall_mem_cons, List.not_mem_nil, false_imp_iff, implies_true, and_true]
    exact ⟨rfl, rfl, rfl, rfl⟩

/-! Vectors -/

theorem internalVector_eq (iir : Byte) (b : Bool) (off : Byte) :
    internalVector iir b off = BitVec.ofNat 16 (iir.toNat / 2 * 512 + (b.toNat * 256 + off.toNat)) := by
  apply BitVec.eq_of_toNat_eq
  have hi := iir.isLt
  have ho := off.isLt
  have hb : b.toNat ≤ 1 := b.toNat_le
  rw [internalVector, toNat_append_eq, toNat_append_eq, toNat_bit1, BitVec.toNat_ofNat, BitVec.extractLsb'_toNat,
    Nat.shiftRight_eq_div_pow]
  omega

theorem word_eq (hi lo : Byte) : word hi lo = BitVec.ofNat 16 (hi.toNat * 256 + lo.toNat) := by
  apply BitVec.eq_of_toNat_eq
  have h := hi.isLt
  have l := lo.isLt
  rw [word, toNat_append_eq, BitVec.toNat_ofNat]
  omega

/-- Settles O48. -/
theorem vectorTable : Obligations.VectorTable := by
  intro cfg iir eir
  have hext : ∀ lo : Byte, some (word eir lo) = some (BitVec.ofNat 16 (eir.toNat * 256 + lo.toNat)) := fun lo =>
    congrArg some (word_eq eir lo)
  have h0 : eir.toNat * 256 + (0x00 : Byte).toNat = eir.toNat * 256 := Nat.add_zero _
  refine ⟨?_, h0 ▸ hext 0x00, hext 0x10, Option.map_eq_none_iff, fun s h => ?_⟩
  · have hv : ∀ b off, some (internalVector iir b off) =
        some (BitVec.ofNat 16 (iir.toNat / 2 * 512 + (b.toNat * 256 + off.toNat))) :=
      fun b off => congrArg some (internalVector_eq iir b off)
    simp only [List.forall_mem_cons, List.not_mem_nil, false_imp_iff, implies_true, and_true]
    exact ⟨hv false 0x00, hv false 0x10, hv false 0x80, hv false 0x90, hv false 0xA0, hv false 0xB0, hv false 0xC0, hv false 0xD0,
      hv false 0xE0, hv false 0xF0, hv true 0x80, hv true 0x90, hv true 0xA0, hv true 0xB0, hv true 0xC0, hv true 0xD0⟩
  · unfold State.takeInterrupt
    rw [h]

/-! Entry -/

/-- The entry: the look-ahead read can draw a free value, then the acknowledge, the exception, and the histories. -/
theorem State.interrupt_eq (s : State) (src : IntSource) (prio : BitVec 2) (v : Word) : ∃ n,
    s.interrupt src prio v =
      (let w := ({ s with dev := { acknowledge s.dev src with free := n } } : State).enter s.pushLost v
      { w with cpu := { w.cpu with
        ip := pushField s.cpu.ip prio, altd := false, iospace := .memory, defer := false, lastIo := false } }) := by
  obtain ⟨n, hn⟩ := s.physRead_free (inXpcWindow s.dev.mmu s.cpu.pc) (s.fetchPhys s.cpu.pc)
  have hack : ∀ d : Dev, acknowledge { d with free := n } src = { acknowledge d src with free := n } := fun d => by
    cases src <;> rfl
  have hlost : ({ s with dev := { acknowledge s.dev src with free := n } } : State).pushLost = s.pushLost := by
    cases src <;> rfl
  refine ⟨n, ?_⟩
  unfold State.interrupt State.fetchRead
  rw [hn]
  dsimp only
  rw [hack, hlost]
  rfl

/-- Settles O47: the step is the entry; the bytes pushed are two stack writes of the acknowledged state. -/
theorem interruptEntry : Obligations.InterruptEntry := by
  intro s src v hi hb haltd hio hdue hv
  let u : State := { s with inbox := laterInbox s.inbox }
  have hstep : step s = .next (u.interrupt src (src.prio s.cfg s.dev) v) := by
    have hat : u.atBoundary = true := by rw [State.atBoundary_eq]; exact decide_eq_true ⟨haltd, hio⟩
    have hdue' : u.interruptDue = some src := hdue
    have hv' : src.vector u.cfg u.cpu.iir u.cpu.eir = some v := hv
    rw [step_of_no_event hi]
    show u.cpuStep = _
    unfold State.cpuStep
    rw [if_neg (by simp [u, hb]), if_pos hat, hdue']
    show u.takeInterrupt src = _
    unfold State.takeInterrupt
    rw [hv']
  obtain ⟨n, hn⟩ := u.interrupt_eq src (src.prio s.cfg s.dev) v
  refine ⟨_, hstep, ?_⟩
  rw [hn]
  have hlost : u.pushLost = s.pushLost := rfl
  rw [hlost]
  let w : State := { u with dev := acknowledge s.dev src }
  refine ⟨?cpu, fun hl hw => ?pushed, fun hl => ?lost⟩
  case cpu =>
    obtain ⟨hcpu, -⟩ := State.enter_data { w with dev := { w.dev with free := n } } s.pushLost v
    show { (State.enter { w with dev := { w.dev with free := n } } s.pushLost v).cpu with
      ip := pushField s.cpu.ip (src.prio s.cfg s.dev), altd := false, iospace := .memory, defer := false, lastIo := false } = _
    rw [hcpu]
    unfold State.systemSu
    rw [← haltd, ← hio]
    rfl
  case pushed =>
    rw [hl]
    obtain ⟨t, hwrote, ht⟩ := Wrote.push16 (s := { w with dev := { w.dev with free := n } }) hw s.cpu.pc
    have hma : MemoryAfter w t true (pushBytes s.cpu.sp s.cpu.pc) := hwrote.ofDraw.ma
    have hpush : MemoryAfter w (State.push16 { w with dev := { w.dev with free := n } } s.cpu.pc) true
        (pushBytes s.cpu.sp s.cpu.pc) := by
      rw [ht]
      exact hma
    exact hpush
  case lost =>
    rw [hl]
    exact ⟨rfl, rfl⟩

end Sys2Proof.Machine
end

section
/-! The oscillator's devices (`61_system_management.md` R680, R682) and the peripherals: Timer A's division
(`63_timers_capture_pwm_qd.md` R771), the serial receiver (`64_serial_slave.md` R832, R852), the outputs of Ports D to G
(`62_ports_io_banks.md` R720 to R726). -/
namespace Sys2Proof.Machine

/-! The watchdog -/

@[simp] theorem Watchdog.tickSecondary_primary (w : Watchdog) : w.tickSecondary.count = w.count ∧
    w.tickSecondary.period = w.period ∧ w.tickSecondary.disabled = w.disabled ∧ w.tickSecondary.testing = w.testing := by
  unfold Watchdog.tickSecondary
  split
  · split <;> exact ⟨rfl, rfl, rfl, rfl⟩
  · exact ⟨rfl, rfl, rfl, rfl⟩

theorem Watchdog.tick_period (w : Watchdog) : w.tick.period = w.period := by
  unfold Watchdog.tick
  rw [(Watchdog.tickSecondary_primary _).2.1]
  split <;> rfl

section
variable {w : Watchdog}

theorem Watchdog.counts_of_running (hd : w.disabled = false) (ht : w.testing = false) : w.counts = true := by
  simp [Watchdog.counts, hd, ht]

/-- A running watchdog counts one cycle. -/
theorem Watchdog.tick_of_running (hd : w.disabled = false) (ht : w.testing = false) :
    w.tick.count = w.count + 1 ∧ w.tick.period = w.period ∧ w.tick.disabled = false ∧ w.tick.testing = false := by
  have htick : w.tick = ({ w with count := w.count + 1 } : Watchdog).tickSecondary := by
    simp only [Watchdog.tick, Watchdog.counts_of_running hd ht, if_true]
  obtain ⟨hcount, hperiod, hdis, htest⟩ := Watchdog.tickSecondary_primary { w with count := w.count + 1 }
  rw [htick]
  exact ⟨hcount, hperiod, hdis.trans hd, htest.trans ht⟩

/-- It times out on the cycle that completes its period. -/
theorem Watchdog.expires_iff (hd : w.disabled = false) (ht : w.testing = false) (hlt : w.count.toNat + 1 < 2 ^ 17) :
    w.expires = true ↔ w.period.toNat ≤ w.count.toNat + 1 := by
  have hsum : (w.count + 1).toNat = w.count.toNat + 1 := by
    rw [BitVec.toNat_add]
    exact Nat.mod_eq_of_lt hlt
  rw [Watchdog.expires, Watchdog.counts_of_running hd ht, Bool.true_and, decide_eq_true_eq, BitVec.le_def, hsum]

end

/-- Short of its period the watchdog only counts. -/
theorem ticks32k_short (n : Nat) {s : State} (hd : s.dev.wdt.disabled = false) (ht : s.dev.wdt.testing = false)
    (hn : s.dev.wdt.count.toNat + n < s.dev.wdt.period.toNat) : (State.ticks32k n s).cpu = s.cpu ∧
    (State.ticks32k n s).mem = s.mem ∧ (State.ticks32k n s).dev.wdt.count.toNat = s.dev.wdt.count.toNat + n := by
  induction n generalizing s with
  | zero => exact ⟨rfl, rfl, rfl⟩
  | succ n ih =>
    have hp := s.dev.wdt.period.isLt
    have hlt : s.dev.wdt.count.toNat + 1 < 2 ^ 17 := by omega
    have hno : ¬s.dev.wdt.expires = true := by rw [Watchdog.expires_iff hd ht hlt]; omega
    have hstep : s.tick32k = { s with dev := clk32Tick s.dev } := if_neg hno
    obtain ⟨hcount, hperiod, hdis, htest⟩ := Watchdog.tick_of_running hd ht
    have hsum : s.dev.wdt.tick.count.toNat = s.dev.wdt.count.toNat + 1 := by
      rw [hcount, BitVec.toNat_add]
      exact Nat.mod_eq_of_lt hlt
    obtain ⟨hcpu, hmem, hcnt⟩ := ih (s := { s with dev := clk32Tick s.dev }) hdis htest (by
      show s.dev.wdt.tick.count.toNat + n < s.dev.wdt.tick.period.toNat
      rw [hsum, hperiod]
      omega)
    show (State.ticks32k n s.tick32k).cpu = _ ∧ (State.ticks32k n s.tick32k).mem = _ ∧
      (State.ticks32k n s.tick32k).dev.wdt.count.toNat = _
    rw [hstep]
    refine ⟨hcpu, hmem, hcnt.trans ?_⟩
    show s.dev.wdt.tick.count.toNat + n = _
    omega

/-- Settles O55: below the period by `ticks32k_short`, at it by the reset, and the codes at WDTCR. -/
theorem watchdogResets : Obligations.WatchdogResets := by
  intro s hd ht
  refine ⟨fun n hn => ticks32k_short n hd ht hn, fun h => ?expires, ?codes⟩
  case expires =>
    have hp := s.dev.wdt.period.isLt
    have he : s.dev.wdt.expires = true := (Watchdog.expires_iff hd ht (by omega)).2 (Nat.le_of_eq h.symm)
    have hstep : s.tick32k = ({ s with dev := clk32Tick s.dev } : State).watchdogReset := if_pos he
    rw [hstep]
    exact ⟨rfl, rfl, rfl, rfl, rfl, rfl, Watchdog.tick_period _⟩
  case codes =>
    simp only [List.forall_mem_cons, List.not_mem_nil, false_imp_iff, implies_true, and_true]
    refine ⟨?_, ?_, ?_, ?_⟩ <;>
      exact written_of_ofAddr (r := .wdtcr) (by decide) rfl rfl rfl fun _ _ _ => ⟨rfl, rfl⟩

/-! The real-time clock -/

/-- The clock counts each cycle, through a time-out of the watchdog too. -/
theorem tick32k_rtc (s : State) : s.tick32k.dev.rtc.count = s.dev.rtc.count + 1 := by
  unfold State.tick32k
  split <;> rfl

theorem ticks32k_rtc (n : Nat) (s : State) : (State.ticks32k n s).dev.rtc.count = s.dev.rtc.count + BitVec.ofNat 48 n := by
  induction n generalizing s with
  | zero => exact (BitVec.add_zero _).symm
  | succ n ih =>
    have hn : BitVec.ofNat 48 (n + 1) = 1 + BitVec.ofNat 48 n := by
      rw [Nat.add_comm, BitVec.ofNat_add]
      rfl
    show (State.ticks32k n s.tick32k).dev.rtc.count = _
    rw [ih, tick32k_rtc, hn, BitVec.add_assoc]

theorem byte48_eq (x : BitVec 48) (k : Nat) : byte48 x k = BitVec.ofNat 8 (x.toNat / 256 ^ k) := by
  apply BitVec.eq_of_toNat_eq
  rw [byte48, BitVec.extractLsb'_toNat, BitVec.toNat_ofNat, Nat.shiftRight_eq_div_pow, Nat.pow_mul]

theorem rtcAddr : ∀ k : Fin 6, (2 + BitVec.ofNat 16 k.val : Word).toNat < 0x100 ∧
    IoReg.ofAddr .r3000 (2 + BitVec.ofNat 16 k.val : Word).toNat = some (.rtc k) ∧
    IoReg.ofAddr .r3000A (2 + BitVec.ofNat 16 k.val : Word).toNat = some (.rtc k) := by decide

/-- Settles O56. -/
theorem realTimeClock : Obligations.RealTimeClock := by
  intro s
  refine ⟨fun n => ticks32k_rtc n s, fun v => ?_, fun k => ?_⟩
  · exact written_of_ofAddr (r := .rtc 0) (by decide) rfl rfl rfl fun _ _ _ => ⟨rfl, rfl⟩
  · obtain ⟨hlt, h, hA⟩ := rtcAddr k
    rw [ioReadInternal_of_ofAddr hlt (ofAddr_both h hA s.cfg.rev), ← byte48_eq]
    rfl

/-! Timer A -/

/-- A byte put together from its bits has these bits. -/
theorem getLsbD_byteOf (f : Fin 8 → Bool) (k : Fin 8) : (byteOf f).getLsbD k.val = f k := by
  have hbit : ∀ (b : Bool), (bit1 b).getLsbD 0 = b := by decide
  match k with
  | ⟨0, _⟩ | ⟨1, _⟩ | ⟨2, _⟩ | ⟨3, _⟩ | ⟨4, _⟩ | ⟨5, _⟩ | ⟨6, _⟩ | ⟨7, _⟩ =>
    simp only [byteOf, BitVec.getLsbD_append, Nat.reduceLT, Nat.reduceSub, if_true, if_false, hbit]
    rfl

section
variable {t : TimerA} {i : Fin 10}

/-- A unit that is not chained behind A1 counts every main clock pulse. -/
theorem TimerA.input_main (h : 1 ≤ i.val → i.val ≤ 6 → t.tacr.getLsbD (i.val + 1) = false) : t.input true i = true := by
  unfold TimerA.input
  refine if_neg fun hc => ?_
  rw [show bit t.tacr (i.val + 1) = false from h hc.1 hc.2.1] at hc
  exact Bool.false_ne_true hc.2.2

theorem TimerA.tick_count (h : t.input true i = true) :
    (t.tick true).count[i] = if t.count[i] = 0 then t.reload[i] else t.count[i] - 1 := by
  simp [TimerA.tick, h]

theorem TimerA.tick_done (h : t.input true i = true) (hi : i.val ≤ 6) :
    (t.tick true).done.getLsbD (i.val + 1) = (t.done.getLsbD (i.val + 1) || decide (t.count[i] = 0)) := by
  have hb := getLsbD_byteOf (fun k => if h : 1 ≤ k.val then t.pulse true ⟨k.val - 1, by omega⟩ else false)
    ⟨i.val + 1, by omega⟩
  have hpulse : t.pulse true i = decide (t.count[i] = 0) := by rw [TimerA.pulse, h, Bool.true_and]
  rw [← hpulse]
  refine (BitVec.getLsbD_or ..).trans (congrArg (t.done.getLsbD (i.val + 1) || ·) (hb.trans ?_))
  simp

theorem timerTicks_succ (n : Nat) (t : TimerA) : timerTicks (n + 1) t = (timerTicks n t).tick true := by
  induction n generalizing t with
  | zero => rfl
  | succ n ih => exact ih (t.tick true)

/-- Short of zero the unit counts down; nothing else of it changes. -/
theorem timerTicks_short {k : Nat} (h : 1 ≤ i.val → i.val ≤ 6 → t.tacr.getLsbD (i.val + 1) = false)
    (hk : k ≤ t.count[i].toNat) : (timerTicks k t).count[i].toNat = t.count[i].toNat - k ∧
    (timerTicks k t).tacr = t.tacr ∧ (timerTicks k t).reload = t.reload ∧
    (i.val ≤ 6 → (timerTicks k t).done.getLsbD (i.val + 1) = t.done.getLsbD (i.val + 1)) := by
  induction k with
  | zero => exact ⟨rfl, rfl, rfl, fun _ => rfl⟩
  | succ k ih =>
    obtain ⟨hcount, htacr, hreload, hdone⟩ := ih (Nat.le_of_succ_le hk)
    have hin : (timerTicks k t).input true i = true := TimerA.input_main (htacr ▸ h)
    have hne : (timerTicks k t).count[i] ≠ 0 := fun h0 => by
      rw [h0] at hcount
      have h00 : (0 : Byte).toNat = 0 := rfl
      omega
    have hone : 1 ≤ (timerTicks k t).count[i] := by
      show 1 ≤ (timerTicks k t).count[i].toNat
      omega
    rw [timerTicks_succ]
    refine ⟨?_, htacr, hreload, fun hi => ?_⟩
    · rw [TimerA.tick_count hin, if_neg hne, BitVec.toNat_sub_of_le hone, hcount]
      exact Nat.sub_sub _ _ _
    · rw [TimerA.tick_done hin hi, hdone hi, decide_eq_false hne, Bool.or_false]

/-- Settles O57: `timerTicks_short` up to zero, then the pulse that finds the counter there. -/
theorem timerDivides : Obligations.TimerDivides := by
  intro t i h
  obtain ⟨hcount, htacr, hreload, -⟩ := timerTicks_short h (Nat.le_refl _)
  have hin : (timerTicks t.count[i].toNat t).input true i = true := TimerA.input_main (htacr ▸ h)
  have hzero : (timerTicks t.count[i].toNat t).count[i] = 0 := BitVec.eq_of_toNat_eq (hcount.trans (Nat.sub_self _))
  refine ⟨fun k hk => (timerTicks_short h hk).1, ?_, fun hi => ⟨?_, fun k hk => (timerTicks_short h hk).2.2.2 hi⟩⟩
  · rw [timerTicks_succ, TimerA.tick_count hin, if_pos hzero, hreload]
  · rw [timerTicks_succ, TimerA.tick_done hin hi, decide_eq_true hzero, Bool.or_true]

end

end Sys2Proof.Machine
end

section
/-! The serial receiver (`64_serial_slave.md` R832, R835, R852) and the outputs of Ports D to G (`62_ports_io_banks.md` R720 to
R726). -/
namespace Sys2Proof.Machine

/-! Receiving -/

section
variable {cfg : Params} {d : Dev} {id : SerialId} {c : RxChar}

@[simp] theorem Dev.ser_setSer (d : Dev) (id : SerialId) (x : SerialPort) : (d.setSer id x).ser id = x := by
  simp [Dev.ser, Dev.setSer]

/-- SxSR[7] and SxSR[5], in every mode. -/
theorem serialStatus_bits (d : Dev) (id : SerialId) : (serialStatus d id).getLsbD 7 = (d.ser id).rxFull ∧
    (serialStatus d id).getLsbD 5 = (d.ser id).overrun := by
  have hbit : ∀ b : Bool, (bit1 b).getLsbD 0 = b := by decide
  unfold serialStatus
  dsimp only
  split <;> simp only [BitVec.getLsbD_append, Nat.reduceLT, Nat.reduceSub, if_true, if_false, hbit, and_self]

/-- A character delivered to an empty port is the one in the data register. -/
theorem serialDeliver_empty (h : (d.ser id).rxFull = false) :
    (serialDeliver cfg d id c).ser id = { d.ser id with rx := c, rxFull := true, rxReq := true } := by
  simp [serialDeliver, SerialPort.deliver, h]

/-- Behind a full data register it waits, where there is room. -/
theorem serialDeliver_waits (h : (d.ser id).rxFull = true) (hroom : (d.ser id).rxWait.length < serialRxRoom cfg id) :
    (serialDeliver cfg d id c).ser id = { d.ser id with rxWait := (d.ser id).rxWait ++ [c] } := by
  simp [serialDeliver, SerialPort.deliver, h, hroom, Nat.not_le.2 hroom]

/-- Without room it sets the overrun bit. -/
theorem serialDeliver_overrun (h : (d.ser id).rxFull = true) (hroom : serialRxRoom cfg id ≤ (d.ser id).rxWait.length) :
    ((serialDeliver cfg d id c).ser id).overrun = true := by
  simp [serialDeliver, SerialPort.deliver, h, hroom, Nat.not_lt.2 hroom]

/-- A read of SxDR gives the data register's byte, and the next waiting character takes its place. -/
theorem serialRead_spec (d : Dev) (id : SerialId) : (serialRead d id false).1 = (d.ser id).rx.data ∧
    ∃ v, (serialRead d id false).2.ser id = (d.ser id).takeRx v :=
  ⟨rfl, (if (d.ser id).inHdlc id then d.draw else (0, d)).1, by simp [serialRead]⟩

end

/-- Settles O58: the port after each delivery and each read. -/
theorem serialReceive : Obligations.SerialReceive := by
  intro cfg d p c1 c2 c3 hempty hwait hover hdepth full e1 e2 f1
  have hfull : ∀ e : Dev, full e = (e.ser p).rxFull := fun e => (serialStatus_bits e p).1
  have hroom : 1 ≤ serialRxRoom cfg p := by
    unfold serialRxRoom
    split
    · exact hdepth
    · exact Nat.le_refl 1
  have he1 : e1.ser p = { d.ser p with rx := c1, rxFull := true, rxReq := true } := serialDeliver_empty hempty
  have hw1 : (e1.ser p).rxWait = [] := by rw [he1]; exact hwait
  have he2 : e2.ser p = { e1.ser p with rxWait := [c2] } := by
    have h := serialDeliver_waits (cfg := cfg) (d := e1) (id := p) (c := c2) (by rw [he1]) (by rw [hw1]; exact hroom)
    rwa [hw1] at h
  obtain ⟨hd1, v1, hr1⟩ := serialRead_spec e1 p
  obtain ⟨hd2, v2, hr2⟩ := serialRead_spec e2 p
  obtain ⟨hdf, vf, hrf⟩ := serialRead_spec f1 p
  have hf1 : f1.ser p = { (e2.ser p).takeRx v2 with rx := c2, rxFull := true, rxWait := [] } := by
    show (serialRead e2 p false).2.ser p = _
    rw [hr2, he2]
    rfl
  simp only [hfull]
  refine ⟨hempty, ?_, ?_, ?_, ?_, ?_, ?_, ?_, fun hp => ?_⟩
  · rw [he1]
  · rw [hd1, he1]
  · rw [hr1]
    simp [SerialPort.takeRx, SerialPort.nextRx, hw1]
  · rw [hd2, he2, he1]
  · rw [hf1]
  · rw [hdf, hf1]
  · rw [hrf, hf1]
    rfl
  · rw [(serialStatus_bits _ p).2]
    refine serialDeliver_overrun (by rw [he2, he1]) ?_
    have hone : serialRxRoom cfg p = 1 := by
      simp only [List.mem_cons, List.not_mem_nil, or_false] at hp
      rcases hp with rfl | rfl | rfl | rfl <;> rfl
    rw [hone, he2]
    exact Nat.le_refl 1

/-! Outputs -/

section
variable {d : Dev} {t : TPort} {v : Byte}

/-- A byte is the byte of its bits. -/
theorem byteOf_bit (w : Byte) : byteOf (fun k => bit w k.val) = w := by
  apply BitVec.eq_of_getLsbD_eq
  intro k hk
  exact getLsbD_byteOf (fun k => bit w k.val) ⟨k, hk⟩

/-- Where every pin's level is known, a read gives them. -/
theorem readPins_of_levels {rev : Rev} {p : PortId} {w : Byte} (h : ∀ k : Fin 8, pinLevel rev d p k = some (bit w k.val)) :
    readPins rev d p = (w, d) := by
  have hmask : knownMask rev d p = 0xFF := by simp [knownMask, h]; decide
  have hlevels : knownLevels rev d p = w := by simp [knownLevels, h, byteOf_bit]
  rw [readPins, if_pos hmask, hlevels]

theorem pinLevel_timed (rev : Rev) (d : Dev) (t : TPort) (k : Fin 8) : pinLevel rev d t.port k = timedLevel rev d t k := by
  cases t <;> rfl

@[simp] theorem Dev.timed_setTimed (d : Dev) (t : TPort) (x : TimedPort) : (d.setTimed t x).ports.timed t = x := by
  cases t <;> rfl

/-- With the transfer on perclk/2 a byte written is at once the output (`62_ports_io_banks.md` R725). -/
theorem TimedPort.writeData_out {p : TimedPort} (h : p.cr = 0) (v : Byte) : (p.writeData v).out = v := by
  have hmerge : merge 0xFF v p.out = v := by
    simp only [merge]
    exact (congrArg (v &&& 0xFF ||| ·) BitVec.and_zero).trans (BitVec.or_zero.trans BitVec.and_allOnes)
  simp only [TimedPort.writeData, TimedPort.transfer, h]
  exact hmerge

/-- The level of an output pin that the slave port leaves alone, and of one that it takes. -/
theorem timedLevel_output {rev : Rev} {k : Fin 8} (hddr : (d.ports.timed t).ddr = 0xFF) (hfr : (d.ports.timed t).fr = 0)
    (hdcr : (d.ports.timed t).dcr = 0) : timedLevel rev d t k =
      some (if slaveTakes d t k then bit (d.pins.at t.port) k.val else bit (d.ports.timed t).out k.val) := by
  have hall : ∀ k : Fin 8, bit (0xFF : Byte) k.val = true := by decide
  have hnone : ∀ k : Nat, bit (0 : Byte) k = false := fun k => BitVec.getLsbD_zero
  unfold timedLevel
  simp only [hddr, hfr, hdcr, hall, hnone]
  cases slaveTakes d t k <;> cases bit (d.ports.timed t).out k.val <;> rfl

theorem slaveTakes_eq (d : Dev) (t : TPort) (k : Fin 8) :
    slaveTakes d t k = decide ((t = .e ∧ d.slave.mode = 2) ∧ k = 7) := by
  unfold slaveTakes
  split
  · simp
  · rename_i hne
    refine (decide_eq_false fun h => ?_).symm
    exact hne h.1.1 h.2

/-- PE7 from the pins, the rest from the outputs. -/
theorem bit_append_pe7 (x v : Byte) (k : Fin 8) : bit (x.extractLsb' 7 1 ++ v.extractLsb' 0 7) k.val =
    if k = 7 then bit x k.val else bit v k.val := by
  unfold bit
  rw [BitVec.getLsbD_append]
  by_cases h7 : k = 7
  · have hval : k.val = 7 := congrArg Fin.val h7
    rw [if_pos h7, hval]
    simp
  · have hlt : k.val < 7 := by omega
    simp [h7, hlt]

/-- Settles O60: each pin's level, then the read of eight known levels. -/
theorem portOutputsReadBack : Obligations.PortOutputsReadBack := by
  intro rev d t v hddr hfr hdcr hcr e
  have hport : e.ports.timed t = (d.ports.timed t).writeData v := Dev.timed_setTimed d t _
  have hout : (e.ports.timed t).out = v := hport ▸ TimedPort.writeData_out hcr v
  have hlevel : ∀ k : Fin 8, pinLevel rev e t.port k =
      some (if slaveTakes e t k then bit (e.pins.at t.port) k.val else bit v k.val) := fun k => by
    rw [pinLevel_timed, timedLevel_output (by rw [hport]; exact hddr) (by rw [hport]; exact hfr) (by rw [hport]; exact hdcr), hout]
  refine readPins_of_levels fun k => (hlevel k).trans (congrArg some ?_)
  have htakes : slaveTakes e t k = decide ((t = .e ∧ d.slave.mode = 2) ∧ k = 7) := slaveTakes_eq e t k
  rw [htakes]
  by_cases hpe : t = .e ∧ d.slave.mode = 2
  · obtain ⟨rfl, hmode⟩ := hpe
    simp only [hmode, and_self, true_and, decide_eq_true_eq, if_true]
    exact (bit_append_pe7 d.pins.e v k).symm
  · simp only [hpe, false_and, decide_false, Bool.false_eq_true, if_false]

end

end Sys2Proof.Machine
end
